-- ==== Sys2Proof/Word.lean ====
section
/-! DEFINITION. The widths of the block's values (spec 00_scope.md R8, R13, R14). -/
namespace Sys2Proof

/-- A `u8`, or the bit pattern of an `i8` (R14). -/
abbrev Byte := BitVec 8

/-- A LinearIndex, a `u16` (R8, R17). -/
abbrev Index := BitVec 16

/-- A 32-bit word: a command word, RES, STATUS (R28, R32, R70). -/
abbrev Word := BitVec 32

/-- An opaque 32-bit colour (R9). -/
abbrev Colour := BitVec 32

/-- The 16-byte session seed, `seed[0..15]` (R8, R264). -/
abbrev Seed := Vector Byte 16

/-- `W * H`: the cells of the framebuffer (R8). -/
def cellCount : Nat := 65536

/-- `s8(b)`: the byte read as a two's-complement `i8` (R14, G3). -/
def s8 (b : Byte) : Int := b.toInt

/-- `u8(v)`: the byte `v mod 256` (R14, G3). -/
def u8 (v : Int) : Byte := BitVec.ofInt 8 v

end Sys2Proof
end

