-- ==== Sys2Proof/Syntax.lean ====
section
/-! DEFINITION. The commands of the block (spec 30_encoding.md R81: 21 rows, one constructor each), the names
their operands use, and the assembler's source forms with the pseudo-instructions (R86, R87). -/
namespace Sys2Proof

/-- The colour a FILL selects (R78). -/
inductive ColourSel where
  | bg
  | fg
  | reset
  | reseed
deriving DecidableEq, Repr, Inhabited

/-- The four directions of the pad (R79). -/
inductive Direction where
  | up
  | down
  | left
  | right
deriving DecidableEq, Repr, Inhabited

/-- The four face buttons (R79, D13). -/
inductive Face where
  | face0
  | face1
  | face2
  | face3
deriving DecidableEq, Repr, Inhabited

/-- The eight buttons of a button vector (R79). -/
inductive Button where
  | dir (d : Direction)
  | face (f : Face)
deriving DecidableEq, Repr, Inhabited

/-- A command, one constructor per row of the opcode map (R81). Every operand value its type admits is legal
(R58, R78, R80): X, Y and V are kept as the bit patterns of the word. -/
inductive Instr where
  | nop
  | frame (held pressed : Byte)
  | xltC2I (x y : Byte)
  | xltI2C (idx : Index)
  | lut1Rd (a : Byte)
  | lut2Rd (r c : Byte)
  | lut1Wr (a v : Byte)
  | lut2Wr (r c v : Byte)
  | rand1
  | rand2
  | fill (sel : ColourSel)
  | patStripe
  | patChecker
  | drawFn1
  | drawFn2
  | modeAdv
  | xoffInc
  | xoffDec
  | yoffInc
  | yoffDec
  | chkToggle
deriving DecidableEq, Repr, Inhabited

/-- A line of assembler source, operands as written (R86), pseudo-instructions included (R87). -/
inductive Source where
  | nop
  | frame (held pressed : List Button)
  | xltC2I (x y : Int)
  | xltI2C (idx : Int)
  | lut1Rd (a : Int)
  | lut2Rd (r c : Int)
  | lut1Wr (a v : Int)
  | lut2Wr (r c v : Int)
  | rand1
  | rand2
  | fill (sel : ColourSel)
  | patStripe
  | patChecker
  | drawFn1
  | drawFn2
  | modeAdv
  | xoffInc
  | xoffDec
  | yoffInc
  | yoffDec
  | chkToggle
  | clear
  | eval1 (x : Int)
  | eval2 (x y : Int)
  | lut1Load (t : List Int)
  | lut1Ident
  | scrollX (n : Int)
  | scrollY (n : Int)
  | pattern
deriving DecidableEq, Repr, Inhabited

end Sys2Proof
end

