-- ==== Sys2Proof/WellFormed.lean ====
section
/-! DEFINITION. Which source lines assemble (spec 30_encoding.md R86, R87). A command term (`Instr`) needs no check: its
operand types admit exactly the values the formats admit, and each of them is legal (R58, R78, R80). A source line
needs one: "An operand outside its field's range is an assembly error, not a wrap" (R86). -/
namespace Sys2Proof

/-- `lo ≤ v ≤ hi`. -/
def inRange (lo hi v : Int) : Bool := decide (lo ≤ v) && decide (v ≤ hi)

/-- A signed operand X or Y, or the argument of EVAL1 and EVAL2: `-128..127` (R86, R87). -/
def isSigned8 (v : Int) : Bool := inRange (-128) 127 v

/-- An unsigned operand A, R or C: `0..255` (R86). -/
def isUnsigned8 (v : Int) : Bool := inRange 0 255 v

/-- An operand IDX: `0..65535` (R73, R86). -/
def isUnsigned16 (v : Int) : Bool := inRange 0 65535 v

/-- An operand V: `0..255`, or `-128..-1` (R86, C11). -/
def isValue8 (v : Int) : Bool := inRange (-128) 255 v

/-- The argument of SCROLLX and SCROLLY: `-255..255` (R87). -/
def isScroll (n : Int) : Bool := inRange (-255) 255 n

/-- A source line that assembles (R86, R87); PATTERN is rejected (R87). -/
def Source.wellFormed : Source → Bool
  | .nop => true
  | .frame _ _ => true
  | .xltC2I x y => isSigned8 x && isSigned8 y
  | .xltI2C idx => isUnsigned16 idx
  | .lut1Rd a => isUnsigned8 a
  | .lut2Rd r c => isUnsigned8 r && isUnsigned8 c
  | .lut1Wr a v => isUnsigned8 a && isValue8 v
  | .lut2Wr r c v => isUnsigned8 r && isUnsigned8 c && isValue8 v
  | .rand1 => true
  | .rand2 => true
  | .fill _ => true
  | .patStripe => true
  | .patChecker => true
  | .drawFn1 => true
  | .drawFn2 => true
  | .modeAdv => true
  | .xoffInc => true
  | .xoffDec => true
  | .yoffInc => true
  | .yoffDec => true
  | .chkToggle => true
  | .clear => true
  | .eval1 x => isSigned8 x
  | .eval2 x y => isSigned8 x && isSigned8 y
  | .lut1Load t => t.length == 256 && t.all isValue8
  | .lut1Ident => true
  | .scrollX n => isScroll n
  | .scrollY n => isScroll n
  | .pattern => false

end Sys2Proof
end

