-- ==== Sys2Proof/Decode.lean ====
section
/-! DEFINITION. Decoding and encoding of command words (spec 30_encoding.md R70 to R84). Decoding is total on 32-bit
words and rejects by name. -/
namespace Sys2Proof

/-- Why a word is illegal (R82). -/
inductive IllegalWord where
  /-- The opcode is not in the opcode map (R81, R83). -/
  | unassignedOp
  /-- A bit the format reserves is not 0 (R71 to R79). -/
  | reservedBit
deriving DecidableEq, Repr

/-- OP, `cw[31:24]` (R70). -/
def opField (cw : Word) : Byte := cw.extractLsb' 24 8

/-- `cw[23:16]` (R77). -/
def byte2 (cw : Word) : Byte := cw.extractLsb' 16 8

/-- `cw[15:8]` (R72, R75, R76, R77, R79). -/
def byte1 (cw : Word) : Byte := cw.extractLsb' 8 8

/-- `cw[7:0]` (R72, R74 to R77, R79). -/
def byte0 (cw : Word) : Byte := cw.extractLsb' 0 8

/-- IDX, `cw[15:0]` (R73). -/
def idxField (cw : Word) : Index := cw.extractLsb' 0 16

/-- SEL, `cw[1:0]` (R78). -/
def selField (cw : Word) : BitVec 2 := cw.extractLsb' 0 2

/-- The value of SEL that names a colour (R78). -/
def ColourSel.code : ColourSel → BitVec 2
  | .bg => 0
  | .fg => 1
  | .reset => 2
  | .reseed => 3

/-- The colour a value of SEL names; every value is legal (R78). -/
def ColourSel.ofCode (sel : BitVec 2) : ColourSel :=
  if sel = 0 then .bg else if sel = 1 then .fg else if sel = 2 then .reset else .reseed

/-- Accept the command if the reserved bits of its word are 0 (R82). -/
def whenZero {n : Nat} (reserved : BitVec n) (i : Instr) : Except IllegalWord Instr :=
  if reserved = 0 then .ok i else .error .reservedBit

/-- Format N: `cw[23:0]` is reserved (R71). -/
def formatN (cw : Word) (i : Instr) : Except IllegalWord Instr := whenZero (cw.extractLsb' 0 24) i

/-- Formats XY, I, AV, RC and B: `cw[23:16]` is reserved (R72, R73, R75, R76, R79). -/
def formatHalf (cw : Word) (i : Instr) : Except IllegalWord Instr := whenZero (byte2 cw) i

/-- Format A: `cw[23:8]` is reserved (R74). -/
def formatA (cw : Word) (i : Instr) : Except IllegalWord Instr := whenZero (cw.extractLsb' 8 16) i

/-- Format S: `cw[23:2]` is reserved (R78). -/
def formatS (cw : Word) (i : Instr) : Except IllegalWord Instr := whenZero (cw.extractLsb' 2 22) i

/-- The command a word stands for, or why it is illegal (R81, R82, R84). -/
def decode (cw : Word) : Except IllegalWord Instr :=
  match opField cw with
  | 0x00#8 => formatN cw .nop
  | 0x01#8 => formatHalf cw (.frame (byte1 cw) (byte0 cw))
  | 0x10#8 => formatHalf cw (.xltC2I (byte1 cw) (byte0 cw))
  | 0x11#8 => formatHalf cw (.xltI2C (idxField cw))
  | 0x20#8 => formatA cw (.lut1Rd (byte0 cw))
  | 0x21#8 => formatHalf cw (.lut2Rd (byte1 cw) (byte0 cw))
  | 0x22#8 => formatHalf cw (.lut1Wr (byte1 cw) (byte0 cw))
  | 0x23#8 => .ok (.lut2Wr (byte2 cw) (byte1 cw) (byte0 cw))
  | 0x24#8 => formatN cw .rand1
  | 0x25#8 => formatN cw .rand2
  | 0x30#8 => formatS cw (.fill (ColourSel.ofCode (selField cw)))
  | 0x31#8 => formatN cw .patStripe
  | 0x32#8 => formatN cw .patChecker
  | 0x33#8 => formatN cw .drawFn1
  | 0x34#8 => formatN cw .drawFn2
  | 0x40#8 => formatN cw .modeAdv
  | 0x41#8 => formatN cw .xoffInc
  | 0x42#8 => formatN cw .xoffDec
  | 0x43#8 => formatN cw .yoffInc
  | 0x44#8 => formatN cw .yoffDec
  | 0x45#8 => formatN cw .chkToggle
  | _ => .error .unassignedOp

/-- The word of a command, field by field as the format's table lays it out, high bits first (R71 to R81). -/
def encode : Instr → Word
  | .nop => 0x00#8 ++ 0#24
  | .frame held pressed => 0x01#8 ++ 0#8 ++ held ++ pressed
  | .xltC2I x y => 0x10#8 ++ 0#8 ++ x ++ y
  | .xltI2C idx => 0x11#8 ++ 0#8 ++ idx
  | .lut1Rd a => 0x20#8 ++ 0#16 ++ a
  | .lut2Rd r c => 0x21#8 ++ 0#8 ++ r ++ c
  | .lut1Wr a v => 0x22#8 ++ 0#8 ++ a ++ v
  | .lut2Wr r c v => 0x23#8 ++ r ++ c ++ v
  | .rand1 => 0x24#8 ++ 0#24
  | .rand2 => 0x25#8 ++ 0#24
  | .fill sel => 0x30#8 ++ 0#22 ++ sel.code
  | .patStripe => 0x31#8 ++ 0#24
  | .patChecker => 0x32#8 ++ 0#24
  | .drawFn1 => 0x33#8 ++ 0#24
  | .drawFn2 => 0x34#8 ++ 0#24
  | .modeAdv => 0x40#8 ++ 0#24
  | .xoffInc => 0x41#8 ++ 0#24
  | .xoffDec => 0x42#8 ++ 0#24
  | .yoffInc => 0x43#8 ++ 0#24
  | .yoffDec => 0x44#8 ++ 0#24
  | .chkToggle => 0x45#8 ++ 0#24

/-- One row of the opcode map: a word belongs to the row when `cw & mask = value` (R81, R84). -/
structure OpcodeRow where
  mnemonic : String
  mask : Word
  value : Word
deriving DecidableEq, Repr

/-- The word belongs to the row (R84). -/
def OpcodeRow.matches (row : OpcodeRow) (cw : Word) : Bool := cw &&& row.mask == row.value

/-- The opcode map with its masks (R81; opcode_table.json), written apart from `decode`. -/
def opcodeTable : List OpcodeRow := [
  ⟨"NOP", 0xFFFFFFFF, 0x00000000⟩,
  ⟨"FRAME", 0xFFFF0000, 0x01000000⟩,
  ⟨"XLT.C2I", 0xFFFF0000, 0x10000000⟩,
  ⟨"XLT.I2C", 0xFFFF0000, 0x11000000⟩,
  ⟨"LUT1.RD", 0xFFFFFF00, 0x20000000⟩,
  ⟨"LUT2.RD", 0xFFFF0000, 0x21000000⟩,
  ⟨"LUT1.WR", 0xFFFF0000, 0x22000000⟩,
  ⟨"LUT2.WR", 0xFF000000, 0x23000000⟩,
  ⟨"RAND1", 0xFFFFFFFF, 0x24000000⟩,
  ⟨"RAND2", 0xFFFFFFFF, 0x25000000⟩,
  ⟨"FILL", 0xFFFFFFFC, 0x30000000⟩,
  ⟨"PAT.STRIPE", 0xFFFFFFFF, 0x31000000⟩,
  ⟨"PAT.CHECKER", 0xFFFFFFFF, 0x32000000⟩,
  ⟨"DRAW.FN1", 0xFFFFFFFF, 0x33000000⟩,
  ⟨"DRAW.FN2", 0xFFFFFFFF, 0x34000000⟩,
  ⟨"MODE.ADV", 0xFFFFFFFF, 0x40000000⟩,
  ⟨"XOFF.INC", 0xFFFFFFFF, 0x41000000⟩,
  ⟨"XOFF.DEC", 0xFFFFFFFF, 0x42000000⟩,
  ⟨"YOFF.INC", 0xFFFFFFFF, 0x43000000⟩,
  ⟨"YOFF.DEC", 0xFFFFFFFF, 0x44000000⟩,
  ⟨"CHK.TOGGLE", 0xFFFFFFFF, 0x45000000⟩]

/-- The mnemonic of a command, as the opcode map spells it (R81). -/
def mnemonicOf : Instr → String
  | .nop => "NOP"
  | .frame _ _ => "FRAME"
  | .xltC2I _ _ => "XLT.C2I"
  | .xltI2C _ => "XLT.I2C"
  | .lut1Rd _ => "LUT1.RD"
  | .lut2Rd _ _ => "LUT2.RD"
  | .lut1Wr _ _ => "LUT1.WR"
  | .lut2Wr _ _ _ => "LUT2.WR"
  | .rand1 => "RAND1"
  | .rand2 => "RAND2"
  | .fill _ => "FILL"
  | .patStripe => "PAT.STRIPE"
  | .patChecker => "PAT.CHECKER"
  | .drawFn1 => "DRAW.FN1"
  | .drawFn2 => "DRAW.FN2"
  | .modeAdv => "MODE.ADV"
  | .xoffInc => "XOFF.INC"
  | .xoffDec => "XOFF.DEC"
  | .yoffInc => "YOFF.INC"
  | .yoffDec => "YOFF.DEC"
  | .chkToggle => "CHK.TOGGLE"

/-- The command word whose bits, numbered as opcode_table.json numbers them, are the low `nbits` bits of `w`; a command
is one 32-bit unit and no memory holds it, so it has no byte order (R57, R63, R70). -/
def commandWord (nbits w : Nat) : Word := BitVec.ofNat 32 (w % 2 ^ nbits)

/-- What the decoder reads from that word. -/
def decodeTableWord (nbits w : Nat) : Option Instr := (decode (commandWord nbits w)).toOption

end Sys2Proof
end

