-- ==== Sys2Proof/Config.lean ====
section
/-! DEFINITION. What is fixed for a session (spec 00_scope.md R9 to R12, 60_exceptions.md R263, R264), the open
pseudo-random generator, and the free values. Nothing here has a body that a proof could see, but for the spec's own
defaults (R11, R208). -/
namespace Sys2Proof

/-- The kind of a trigger (R10). -/
inductive Trigger where
  | level
  | edge
deriving DecidableEq, Repr, Inhabited

/-- PATTERN_OFFSET_SRC (R11). -/
inductive OffsetSrc where
  | xoff
  | yoff
deriving DecidableEq, Repr, Inhabited

/-- RESET_TABLE_FILL (R11). -/
inductive TableFill where
  | fillFt1ThenFt2
  | unspecified
deriving DecidableEq, Repr, Inhabited

/-- Whether a direction increments or decrements the offset of its axis (R11). -/
inductive Sign where
  | plus
  | minus
deriving DecidableEq, Repr, Inhabited

/-- DIR_SIGN: the sign each direction gives the offset of its axis, LEFT and RIGHT on XOFF, UP and DOWN on YOFF
(R11, D15; log 12). -/
structure DirSign where
  up : Sign := .plus
  down : Sign := .minus
  left : Sign := .minus
  right : Sign := .plus
deriving DecidableEq, Repr, Inhabited

/-- The configuration of a session (R9 to R11), as the block holds it. `P` is the length of the palette. -/
structure SessionConfig where
  palette : List Colour
  colourBg : Colour
  colourFg : Colour
  colourReset : Colour
  colourReseed : Colour
  btnReset : Face := .face0
  btnReseed : Face := .face1
  btnModifier : Face := .face2
  btnAdvance : Face := .face3
  trigReset : Trigger := .level
  trigReseed : Trigger := .edge
  patternOffsetSrc : OffsetSrc := .xoff
  dirSign : DirSign := {}
  resetTableFill : TableFill := .fillFt1ThenFt2
deriving DecidableEq, Repr, Inhabited

/-- What the platform presents on the configuration interface at reset (R263). It need not pass the check of R252: a
parameter that is none of its listed values is `none` (R252 (e)), and the framebuffer may have any number of cells
(R252 (a)). -/
structure ConfigPort where
  fbCells : Nat
  palette : List Colour
  colourBg : Colour
  colourFg : Colour
  colourReset : Colour
  colourReseed : Colour
  btnReset : Face
  btnReseed : Face
  btnModifier : Face
  btnAdvance : Face
  trigReset : Option Trigger
  trigReseed : Option Trigger
  patternOffsetSrc : Option OffsetSrc
  dirSign : Option DirSign
  resetTableFill : Option TableFill
deriving DecidableEq, Repr, Inhabited

/-- A state of the pseudo-random generator (R12: the type is OPEN; the model codes a state as a number, log 4). -/
structure RngState where
  code : Nat
deriving DecidableEq, Repr, Inhabited

/-- RNG_INIT (R12, OPEN). -/
opaque Config.rngInit : Seed → RngState

/-- RNG_NEXT (R12, OPEN): the byte one draw gives and the generator state after it. -/
opaque Config.rngNext : RngState → Byte × RngState

/-- The value of the `n`-th free choice of a 32-bit value (93 U1, U2, U4; log 9). -/
opaque Config.freeWord : Nat → Word

/-- The byte at one place of the `n`-th free choice of a table's contents (93 U8, U9; log 17). -/
opaque Config.freeByte : Nat → Nat → Byte

/-- What reading a palette of length 0 would give. No accepted command does (R252 (b); log 13). -/
opaque Config.emptyPalette : Colour

/-- The seed of the session `State.reset` stands for (R264). -/
opaque Config.seed : Seed

/-- PALETTE[0] of that session (R9). -/
opaque Config.paletteFirst : Colour

/-- PALETTE[1..P-1] of that session (R9). -/
opaque Config.paletteRest : List Colour

/-- COLOR_BG of that session (R9). -/
opaque Config.colourBg : Colour

/-- COLOR_FG of that session (R9). -/
opaque Config.colourFg : Colour

/-- COLOR_RESET of that session (R9). -/
opaque Config.colourReset : Colour

/-- How far COLOR_RESEED lies above COLOR_RESET in that session, less one: any distance but 0 (R9, R252 (d)). -/
opaque Config.reseedDistance : Fin 4294967295

/-- COLOR_RESEED of that session: any colour but COLOR_RESET (R9). -/
def Config.colourReseed : Colour :=
  Config.colourReset + BitVec.ofNat 32 (Config.reseedDistance.val + 1)

/-- The configuration of the session `State.reset` stands for: the bindings, trigger kinds and behavioural parameters
are the spec's defaults (R11, R208, D16), the colours and the palette are free (log 2). -/
def Config.session : SessionConfig where
  palette := Config.paletteFirst :: Config.paletteRest
  colourBg := Config.colourBg
  colourFg := Config.colourFg
  colourReset := Config.colourReset
  colourReseed := Config.colourReseed

end Sys2Proof
end

