-- ==== Sys2Proof/Machine/Mem.lean ====
section
/-! DEFINITION. Memories as lists of (address, value) pairs in one canonical form (spec 20_memory.md R50): addresses
strictly rising, and no entry equal to what an unlisted address reads as. A function table is a list of `Host.Cell`
whose unlisted entries read as 0; the framebuffer is a list of 32-bit cells whose unlisted cells are unwritten (R56). -/
namespace Sys2Proof.Machine

/-- A function table, FT1 or FT2 (R26, R27). -/
abbrev Table := List Host.Cell

/-- The framebuffer: one 32-bit cell an address (R53, R57), a cell not listed unwritten (R56). -/
abbrev Framebuffer := List (Nat × Colour)

/-- One framebuffer write `(index, colour)` (R7, R15). -/
abbrev FbWrite := Index × Colour

variable {α : Type}

/-- The value listed at an address. -/
def lookup : List (Nat × α) → Nat → Option α
  | [], _ => none
  | (b, w) :: m, a => if a = b then some w else lookup m a

/-- List `v` at `a`, in place of what was listed there. -/
def insertAt : List (Nat × α) → Nat → α → List (Nat × α)
  | [], a, v => [(a, v)]
  | (b, w) :: m, a, v =>
    if a < b then (a, v) :: (b, w) :: m
    else if a = b then (a, v) :: m
    else (b, w) :: insertAt m a v

/-- List nothing at `a`. -/
def eraseAt (m : List (Nat × α)) (a : Nat) : List (Nat × α) := m.filter fun p => p.1 != a

/-- The addresses rise strictly and lie below `size`. -/
def sortedBelow (size : Nat) (m : List (Nat × α)) : Bool :=
  decide (m.Pairwise fun p q => p.1 < q.1) && m.all fun p => decide (p.1 < size)

/-- What an unlisted table entry reads as. Every reset writes every entry (R290), so no entry is ever unlisted for want
of a write: this is how the list is written down, and no value the block was given (log 5). -/
def unlistedByte : Byte := 0

/-- Read one table entry (R51, R52, R59). -/
def readTable (m : Table) (a : Nat) : Byte := (lookup m a).getD unlistedByte

/-- Write one table entry (R59). -/
def writeTable (m : Table) (a : Nat) (v : Byte) : Table :=
  if v = unlistedByte then eraseAt m a else insertAt m a v

/-- A table of `size` entries in canonical form. -/
def tableWf (size : Nat) (m : Table) : Bool := sortedBelow size m && m.all fun p => p.2 != unlistedByte

/-- `FBWrite(i, c)`: set one framebuffer cell (R15, R55). -/
def writeCell (m : Framebuffer) (w : FbWrite) : Framebuffer := insertAt m w.1.toNat w.2

/-- A write list applied in list order, so that the last write to a cell wins (R55). -/
def applyWrites (m : Framebuffer) (ws : List FbWrite) : Framebuffer := ws.foldl writeCell m

/-- The framebuffer in canonical form. -/
def framebufferWf (m : Framebuffer) : Bool := sortedBelow cellCount m

/-- All LinearIndex values in ascending order: the loop `for i in 0..65535` (R15). -/
@[irreducible] def planeIndices : List Index := (List.range cellCount).map (BitVec.ofNat 16)

end Sys2Proof.Machine
end

