-- ==== Sys2Proof/Machine/Random.lean ====
section
/-! DEFINITION. Draws from the seeded generator and the refill of a table (spec 41_lookup.md R127 to R129). -/
namespace Sys2Proof.Machine

/-- The byte of one draw (R127). -/
def drawnByte (g : RngState) : Byte := (Config.rngNext g).1

/-- The generator state after one draw (R127). -/
def afterDraw (g : RngState) : RngState := (Config.rngNext g).2

/-- The generator state after `n` draws. -/
@[irreducible] def afterDraws : Nat → RngState → RngState
  | 0, g => g
  | n + 1, g => afterDraws n (afterDraw g)

/-- Write one draw to each of `n` entries from `a` up, in ascending order, starting from the generator state `g`
(R128, R129). -/
@[irreducible] def refillFrom : Nat → Nat → Table → RngState → Table
  | 0, _, m, _ => m
  | n + 1, a, m, g => refillFrom n (a + 1) (writeTable m a (drawnByte g)) (afterDraw g)

/-- Entries of FT1 (R26). -/
def ft1Size : Nat := 256

/-- Rows of FT2 (R27). -/
def rowCount : Nat := 256

/-- Entries of a row of FT2 (R27). -/
def rowSize : Nat := 256

/-- Entries of FT2 (R27). -/
def ft2Size : Nat := 65536

/-- The row-major number of an entry of FT2, `r*256 + c` (R52). -/
def ft2Address (r c : Byte) : Nat := r.toNat * 256 + c.toNat

/-- The generator state after the draws of `n` rows (R129). -/
@[irreducible] def afterRows : Nat → RngState → RngState
  | 0, g => g
  | n + 1, g => afterRows n (afterDraws rowSize g)

/-- Refill `n` rows from the row-major number `a` up, row after row (R129). -/
@[irreducible] def refillRows : Nat → Nat → Table → RngState → Table
  | 0, _, m, _ => m
  | n + 1, a, m, g => refillRows n (a + rowSize) (refillFrom rowSize a m g) (afterDraws rowSize g)

/-- A table that holds, in `n` entries from `a` up, the `choice`-th free choice from place `base` up (93 U8, U9: any
value, chosen once and held). -/
@[irreducible] def freeTableFrom (choice base : Nat) : Nat → Nat → Table → Table
  | 0, _, m => m
  | n + 1, a, m => freeTableFrom choice base n (a + 1) (writeTable m a (Config.freeByte choice (base + a)))

/-- The same for `n` rows of FT2. -/
@[irreducible] def freeRowsFrom (choice base : Nat) : Nat → Nat → Table → Table
  | 0, _, m => m
  | n + 1, a, m => freeRowsFrom choice base n (a + rowSize) (freeTableFrom choice base rowSize a m)

end Sys2Proof.Machine
end

