-- ==== Sys2Proof/Machine/State.lean ====
section
/-! DEFINITION. The state of the block, of the platform at its boundary and of the host's pending actions, and the state
right after reset (spec 10_state.md, 60_exceptions.md section 5, 70_reset_and_hazards.md R290, R291). -/
namespace Sys2Proof.Machine

/-- MODE, the active visualisation mode, in the source's order (R20); value 3 does not exist (R21; log 18). -/
inductive Mode where
  | viewTwoArgFunction
  | visualizeOneArgFunction
  | testPattern
deriving DecidableEq, Repr, Inhabited

/-- What the platform presents with `rst`: the seed and the configuration (R264, R263, R267). -/
structure ResetRequest where
  seed : Seed
  port : ConfigPort
deriving DecidableEq, Repr

/-- One action of the host or of the platform's input device (R267, R260). -/
inductive HostEvent where
  /-- A press event reaches the input latch (R260). -/
  | press (b : Button)
  /-- A release event reaches the input latch (R260). -/
  | release (b : Button)
  /-- The host reads the `res` output (R28, R296). -/
  | readRes
  /-- The host reads the `status` output (R32, R296). -/
  | readStatus
  /-- The host reads a framebuffer cell (R56, R295). -/
  | readCell (i : Index)
  /-- The host writes a framebuffer cell (R295). -/
  | writeCell (i : Index) (c : Colour)
deriving DecidableEq, Repr

/-- What can happen while BUSY = 1, for a command or for the reset (R290, R294 to R297). -/
inductive BusyEvent where
  | host (e : HostEvent)
  /-- A command word presented while BUSY = 1 (R294). -/
  | command (cw : Word)
deriving DecidableEq, Repr

/-- One thing the outside world does to an idle block (R267). -/
inductive HostInput where
  /-- Present a command word; `during` happens while it is performed. -/
  | command (cw : Word) (during : List BusyEvent)
  /-- Sample the input latch and present the FRAME word made of the sample (R261). -/
  | frame (during : List BusyEvent)
  | host (e : HostEvent)
  /-- Assert and release `rst` (R290, R301); `during` happens while BUSY = 1 for the reset. -/
  | reset (during : List BusyEvent) (req : ResetRequest)
  /-- Present a command word and assert `rst` when `issued` of its outputs, framebuffer writes and then the rotate
  strobe, are issued (R301); `during` happens while it is performed. -/
  | abort (cw : Word) (during : List BusyEvent) (issued : Nat) (req : ResetRequest)
deriving DecidableEq, Repr

/-- Everything the spec gives the machine. The core: MODE to `cfg`. The core's outputs of its last command: `fbWrites`,
`strobe`. The platform (R36, R260, R265): `fb`, `latchNow`, `latchPrev`. The host: `inputs`, `hostData`. The model's
own: `choices`. -/
structure State where
  /-- MODE (R20). -/
  mode : Mode
  /-- XOFF (R22). -/
  xoff : Byte
  /-- YOFF (R23). -/
  yoff : Byte
  /-- CHK (R24). -/
  chk : Bool
  /-- RNG (R25). -/
  rng : RngState
  /-- FT1 (R26). -/
  ft1 : Table
  /-- FT2, by row-major number (R27, R52). -/
  ft2 : Table
  /-- RES (R28). -/
  res : Word
  /-- ERR_ILLEGAL (R29). -/
  errIllegal : Bool
  /-- ERR_CONFIG (R30). -/
  errConfig : Bool
  /-- BUSY (R31). -/
  busy : Bool
  /-- The configuration sampled at reset and held for the session (R35, R263; log 11). -/
  cfg : SessionConfig
  /-- The framebuffer writes the last accepted command has issued, in order (R7, R61; log 16). -/
  fbWrites : List FbWrite
  /-- The last accepted command has emitted ROTATE_HISTORY (R7, R235; log 16). -/
  strobe : Bool
  /-- The framebuffer (R53, R56, R265). -/
  fb : Framebuffer
  /-- The input latch's `now` (R260). -/
  latchNow : Byte
  /-- The input latch's `prev` (R260). -/
  latchPrev : Byte
  /-- What the outside world does next, in order (R267; log 1). -/
  inputs : List HostInput
  /-- The value the host's last read gave it (R19, R267). -/
  hostData : Word
  /-- How many free choices have been taken (the model's own; log 3). -/
  choices : Nat
deriving DecidableEq, Repr

/-- Why the machine stops with a fault: never. "Every command the block accepts completes" (R250), no other exception
exists (R253), and an illegal word or a failed configuration check sets a sticky bit in a next state (R251, R252; log 8). -/
inductive Fault where
deriving DecidableEq, Repr

/-- Why an instruction has no meaning. -/
inductive Refusal where
  /-- Raised by an arm of `exec` that is not modelled yet, and by nothing else; safe. -/
  | notModelled (mnemonic : String)
deriving DecidableEq, Repr

/-- The machine right after a successful reset (R290, R291) of the session `Config.session` with seed `Config.seed`,
with RESET_TABLE_FILL at its default: RAND1, then RAND2, from RNG_INIT(seed) (log 2, 3). -/
def State.reset : State where
  mode := .viewTwoArgFunction
  xoff := 0
  yoff := 0
  chk := false
  rng := afterRows rowCount (afterDraws ft1Size (Config.rngInit Config.seed))
  ft1 := refillFrom ft1Size 0 [] (Config.rngInit Config.seed)
  ft2 := refillRows rowCount 0 [] (afterDraws ft1Size (Config.rngInit Config.seed))
  res := 0
  errIllegal := false
  errConfig := false
  busy := false
  cfg := Config.session
  fbWrites := []
  strobe := false
  fb := []
  latchNow := 0
  latchPrev := 0
  inputs := []
  hostData := 0
  choices := 0

end Sys2Proof.Machine
end

