-- ==== Sys2Proof/Machine/Operands.lean ====
section
/-! DEFINITION. How operands are read: button vectors, colours, palette entries, the pattern offset (spec
30_encoding.md R78 to R80, 42_pattern.md R150, R151, 44_mode_fsm.md R208, R209). -/
namespace Sys2Proof.Machine

/-- The bit of a direction in a button vector (R79). -/
def directionBit : Direction → Nat
  | .up => 0
  | .down => 1
  | .left => 2
  | .right => 3

/-- The bit of a face button in a button vector (R79). -/
def faceBit : Face → Nat
  | .face0 => 4
  | .face1 => 5
  | .face2 => 6
  | .face3 => 7

/-- The bit of a button in a button vector (R79). -/
def buttonBit : Button → Nat
  | .dir d => directionBit d
  | .face f => faceBit f

/-- The button is in the set (R79). -/
def isSet (v : Byte) (b : Button) : Bool := v.getLsbD (buttonBit b)

/-- The set with the button alone. -/
def buttonMask (b : Button) : Byte := 1#8 <<< buttonBit b

/-- The set with the button put in. -/
def setButton (v : Byte) (b : Button) : Byte := v ||| buttonMask b

/-- The set with the button taken out. -/
def clearButton (v : Byte) (b : Button) : Byte := v &&& ~~~buttonMask b

/-- The button vector of a set of buttons (R79, R86). -/
def buttonVector (bs : List Button) : Byte := bs.foldl setButton 0

/-- `trig(b, LEVEL) = HELD[b]`, `trig(b, EDGE) = PRESSED[b]` (R209, R230). -/
def triggered (held pressed : Byte) (f : Face) : Trigger → Bool
  | .level => isSet held (.face f)
  | .edge => isSet pressed (.face f)

/-- `col(SEL)` (R171). -/
def selectColour (cfg : SessionConfig) : ColourSel → Colour
  | .bg => cfg.colourBg
  | .fg => cfg.colourFg
  | .reset => cfg.colourReset
  | .reseed => cfg.colourReseed

/-- `P` (R9). -/
def paletteSize (cfg : SessionConfig) : Nat := cfg.palette.length

/-- `PALETTE[n mod P]` (R152). With `P = 0`, a configuration no accepted command runs under (R252), a free value. -/
def paletteAt (cfg : SessionConfig) (n : Nat) : Colour :=
  (cfg.palette[n % paletteSize cfg]?).getD Config.emptyPalette

/-- `S`, the offset register the patterns use (R151). -/
def offsetSource (s : State) : Byte :=
  match s.cfg.patternOffsetSrc with
  | .xoff => s.xoff
  | .yoff => s.yoff

/-- `off = S mod P` (R151). -/
def patternOffset (s : State) : Nat := (offsetSource s).toNat % paletteSize s.cfg

/-- Read FT1 at a `u8` address (R51). -/
def readFt1 (s : State) (a : Byte) : Byte := readTable s.ft1 a.toNat

/-- Read FT2 at a row and a column (R52). -/
def readFt2 (s : State) (r c : Byte) : Byte := readTable s.ft2 (ft2Address r c)

/-- What a framebuffer cell holds: a colour, or nothing yet written (R56). -/
def readFb (s : State) (i : Index) : Option Colour := lookup s.fb i.toNat

/-- `f1(x) = s8(FT1[u8(x)])` (R120). -/
def f1 (s : State) (x : Int) : Int := s8 (readFt1 s (u8 x))

/-- `f2(x, y) = s8(FT2[u8(x)][u8(y)])` (R121). -/
def f2 (s : State) (x y : Int) : Int := s8 (readFt2 s (u8 x) (u8 y))

/-- `rowfn(r)(x) = s8(FT2[r][u8(x)])` (R122). -/
def rowfn (s : State) (r : Byte) (x : Int) : Int := s8 (readFt2 s r (u8 x))

end Sys2Proof.Machine
end

