-- ==== Sys2Proof/Machine/Flags.lean ====
section
/-! DEFINITION. The status flags, the STATUS view and `cmd_ready` (spec 10_state.md R20, R29 to R32, R38). No command
sets a condition code (R38). -/
namespace Sys2Proof.Machine

/-- The 2-bit code of a mode (R20). -/
def Mode.code : Mode → BitVec 2
  | .viewTwoArgFunction => 0
  | .visualizeOneArgFunction => 1
  | .testPattern => 2

/-- `(MODE + 1) mod 3` (R201, R207). -/
def nextMode : Mode → Mode
  | .viewTwoArgFunction => .visualizeOneArgFunction
  | .visualizeOneArgFunction => .testPattern
  | .testPattern => .viewTwoArgFunction

/-- STATUS, fields from bit 31 down (R32). -/
def statusWord (s : State) : Word :=
  0#8 ++ s.yoff ++ s.xoff ++ 0#2 ++ BitVec.ofBool s.errConfig ++ BitVec.ofBool s.errIllegal ++
    BitVec.ofBool s.busy ++ BitVec.ofBool s.chk ++ Mode.code s.mode

/-- `cmd_ready = ~BUSY & ~ERR_CONFIG` (R31). -/
def cmdReady (s : State) : Bool := !s.busy && !s.errConfig

end Sys2Proof.Machine
end

