-- ==== Sys2Proof/Machine/Ops.lean ====
section
/-! DEFINITION. The named operations on the state that the commands are made of: the primitives of spec 00_scope.md R15,
the error of 60_exceptions.md R251, and what FRAME performs of the control commands (44_mode_fsm.md). -/
namespace Sys2Proof.Machine

/-- `RES <- v` (R15, R28). -/
def setRes (v : Word) (s : State) : State := { s with res := v }

/-- `FT1[a] <- v` (R15, R125). -/
def writeFt1 (a v : Byte) (s : State) : State := { s with ft1 := writeTable s.ft1 a.toNat v }

/-- `FT2[r][c] <- v` (R15, R126). -/
def writeFt2 (r c v : Byte) (s : State) : State := { s with ft2 := writeTable s.ft2 (ft2Address r c) v }

/-- Refill FT1 with 256 draws in ascending address order (R128). -/
def refillFt1 (s : State) : State :=
  { s with ft1 := refillFrom ft1Size 0 s.ft1 s.rng, rng := afterDraws ft1Size s.rng }

/-- Refill FT2 with 65536 draws in row-major order (R129). -/
def refillFt2 (s : State) : State :=
  { s with ft2 := refillRows rowCount 0 s.ft2 s.rng, rng := afterRows rowCount s.rng }

/-- Issue a list of framebuffer writes, in list order (R15, R55, R170). -/
def issue (ws : List FbWrite) (s : State) : State :=
  { s with fb := applyWrites s.fb ws, fbWrites := s.fbWrites ++ ws }

/-- `raise Illegal(cw)`: set the sticky bit, and nothing else (R251). This is the block's only exception, and there is
no return from it (R256). -/
def raiseIllegal (s : State) : State := { s with errIllegal := true }

/-- `ROTATE_HISTORY`: emit the strobe (R15, R235). -/
def emitRotate (s : State) : State := { s with strobe := true }

/-- `MODE <- (MODE + 1) mod 3` (R201). -/
def advanceMode (s : State) : State := { s with mode := nextMode s.mode }

/-- `XOFF <- (XOFF + 1) mod 256` (R202). -/
def incXoff (s : State) : State := { s with xoff := s.xoff + 1 }

/-- `XOFF <- (XOFF - 1) mod 256` (R203). -/
def decXoff (s : State) : State := { s with xoff := s.xoff - 1 }

/-- `YOFF <- (YOFF + 1) mod 256` (R204). -/
def incYoff (s : State) : State := { s with yoff := s.yoff + 1 }

/-- `YOFF <- (YOFF - 1) mod 256` (R205). -/
def decYoff (s : State) : State := { s with yoff := s.yoff - 1 }

/-- `CHK <- ~CHK` (R206). -/
def toggleChk (s : State) : State := { s with chk := !s.chk }

end Sys2Proof.Machine
end

