-- ==== Sys2Proof/Machine/Lookup.lean ====
section
/-! DEFINITION. The lookup engine's commands (spec 41_lookup.md R123 to R131). -/
namespace Sys2Proof.Machine

/-- LUT1.RD: `RES <- zext_32(FT1[a])` (R123). -/
def execLut1Rd (a : Byte) (s : State) : Host.Outcome State Fault Refusal :=
  .next (setRes ((readFt1 s a).setWidth 32) s)

/-- LUT2.RD: `RES <- zext_32(FT2[r][c])` (R124). -/
def execLut2Rd (r c : Byte) (s : State) : Host.Outcome State Fault Refusal :=
  .next (setRes ((readFt2 s r c).setWidth 32) s)

/-- LUT1.WR: `FT1[a] <- v` (R125). -/
def execLut1Wr (a v : Byte) (s : State) : Host.Outcome State Fault Refusal :=
  .next (writeFt1 a v s)

/-- LUT2.WR: `FT2[r][c] <- v` (R126). -/
def execLut2Wr (r c v : Byte) (s : State) : Host.Outcome State Fault Refusal :=
  .next (writeFt2 r c v s)

/-- RAND1: refill FT1 from the generator (R128). -/
def execRand1 (s : State) : Host.Outcome State Fault Refusal :=
  .next (refillFt1 s)

/-- RAND2: refill FT2 from the generator (R129). -/
def execRand2 (s : State) : Host.Outcome State Fault Refusal :=
  .next (refillFt2 s)

end Sys2Proof.Machine
end

