-- ==== Sys2Proof/Machine/ModeFsm.lean ====
section
/-! DEFINITION. NOP and the commands of the control registers (spec 44_mode_fsm.md R200 to R207). -/
namespace Sys2Proof.Machine

/-- NOP: nothing changes (R200). -/
def execNop (s : State) : Host.Outcome State Fault Refusal := .next s

/-- MODE.ADV (R201). -/
def execModeAdv (s : State) : Host.Outcome State Fault Refusal := .next (advanceMode s)

/-- XOFF.INC (R202). -/
def execXoffInc (s : State) : Host.Outcome State Fault Refusal := .next (incXoff s)

/-- XOFF.DEC (R203). -/
def execXoffDec (s : State) : Host.Outcome State Fault Refusal := .next (decXoff s)

/-- YOFF.INC (R204). -/
def execYoffInc (s : State) : Host.Outcome State Fault Refusal := .next (incYoff s)

/-- YOFF.DEC (R205). -/
def execYoffDec (s : State) : Host.Outcome State Fault Refusal := .next (decYoff s)

/-- CHK.TOGGLE (R206). -/
def execChkToggle (s : State) : Host.Outcome State Fault Refusal := .next (toggleChk s)

end Sys2Proof.Machine
end

