-- ==== Sys2Proof/Machine/Pattern.lean ====
section
/-! DEFINITION. The pattern-tile generator: PAT.STRIPE, PAT.CHECKER (spec 42_pattern.md R150 to R155, 90_conflicts.md
C2). -/
namespace Sys2Proof.Machine

/-- The write list of PAT.STRIPE: `PALETTE[(i + off) mod P]` at every cell, ascending (R152). -/
def stripeWrites (s : State) : List FbWrite :=
  planeIndices.map fun i => (i, paletteAt s.cfg (i.toNat + patternOffset s))

/-- The write list of PAT.CHECKER: `PALETTE[(i + off + (i div 256)) mod P]` at every cell, ascending (R153). -/
def checkerWrites (s : State) : List FbWrite :=
  planeIndices.map fun i => (i, paletteAt s.cfg (i.toNat + patternOffset s + i.toNat / 256))

/-- What PAT.STRIPE does (R152). -/
def paintStripe (s : State) : State := issue (stripeWrites s) s

/-- What PAT.CHECKER does (R153). -/
def paintChecker (s : State) : State := issue (checkerWrites s) s

/-- PAT.STRIPE (R152). -/
def execPatStripe (s : State) : Host.Outcome State Fault Refusal := .next (paintStripe s)

/-- PAT.CHECKER (R153). -/
def execPatChecker (s : State) : Host.Outcome State Fault Refusal := .next (paintChecker s)

end Sys2Proof.Machine
end

