-- ==== Sys2Proof/Machine/Translator.lean ====
section
/-! DEFINITION. The coordinate bijection and XLT.C2I, XLT.I2C (spec 40_translator.md R100 to R107). Coordinates are `i8`
bit patterns, so byte arithmetic wraps modulo 256 (R104). -/
namespace Sys2Proof.Machine

/-- `corner(v) = (v + 128) mod 256` (R100). -/
def corner (v : Byte) : Byte := v + 128

/-- `uncorner(b) = s8((b - 128) mod 256)` (R100), as a bit pattern. -/
def uncorner (b : Byte) : Byte := b - 128

/-- `(256 - b) mod 256` (R101, R102). -/
def flipRow (b : Byte) : Byte := 0 - b

/-- `to_index(x, y)`: the row in bits 15..8, the corner of x in bits 7..0 (R101). -/
def toIndex (x y : Byte) : Index := flipRow (corner y) ++ corner x

/-- `to_coord(i)` (R102). -/
def toCoord (i : Index) : Byte × Byte :=
  (uncorner (i.extractLsb' 0 8), uncorner (flipRow (i.extractLsb' 8 8)))

/-- XLT.C2I: `RES <- zext_32(to_index(x, y))` (R106). -/
def execXltC2I (x y : Byte) (s : State) : Host.Outcome State Fault Refusal :=
  .next (setRes ((toIndex x y).setWidth 32) s)

/-- XLT.I2C: `RES <- {0x0000, u8(x), u8(y)}` with `(x, y) = to_coord(i)` (R107). -/
def execXltI2C (idx : Index) (s : State) : Host.Outcome State Fault Refusal :=
  .next (setRes (0#16 ++ (toCoord idx).1 ++ (toCoord idx).2) s)

end Sys2Proof.Machine
end

