-- ==== Sys2Proof/Machine/Visualizer.lean ====
section
/-! DEFINITION. The function visualiser: FILL, DRAW.FN1, DRAW.FN2 (spec 43_visualizer.md R170 to R177). -/
namespace Sys2Proof.Machine

/-- One colour at every cell, ascending (R171). -/
def solidWrites (c : Colour) : List FbWrite := planeIndices.map fun i => (i, c)

/-- The arguments DRAW.FN1 plots, as bit patterns: `x = k - 128` for `k` in 0..255, ascending (R172). -/
@[irreducible] def plotArguments : List Byte := (List.range 256).map fun (k : Nat) => u8 ((k : Int) - 128)

/-- The foreground writes of DRAW.FN1: the cell `to_index(x, f1(x))` for each argument (R172). -/
def plot1Writes (s : State) : List FbWrite :=
  plotArguments.map fun x => (toIndex x (readFt1 s x), s.cfg.colourFg)

/-- The foreground writes of DRAW.FN2: for `i` in 0..65535, `(x, y) = to_coord(i)`, the cell
`to_index(rowfn(XOFF)(x), rowfn(YOFF)(y))` (R174). -/
def plot2Writes (s : State) : List FbWrite :=
  planeIndices.map fun i =>
    (toIndex (readFt2 s s.xoff (toCoord i).1) (readFt2 s s.yoff (toCoord i).2), s.cfg.colourFg)

/-- What FILL does (R171). -/
def paintSolid (sel : ColourSel) (s : State) : State := issue (solidWrites (selectColour s.cfg sel)) s

/-- What DRAW.FN1 does: the background, then the foreground (R170, R172). -/
def plot1 (s : State) : State := issue (solidWrites s.cfg.colourBg ++ plot1Writes s) s

/-- What DRAW.FN2 does: the background, then the foreground (R170, R174). -/
def plot2 (s : State) : State := issue (solidWrites s.cfg.colourBg ++ plot2Writes s) s

/-- FILL (R171). -/
def execFill (sel : ColourSel) (s : State) : Host.Outcome State Fault Refusal := .next (paintSolid sel s)

/-- DRAW.FN1 (R172). -/
def execDrawFn1 (s : State) : Host.Outcome State Fault Refusal := .next (plot1 s)

/-- DRAW.FN2 (R174). -/
def execDrawFn2 (s : State) : Host.Outcome State Fault Refusal := .next (plot2 s)

end Sys2Proof.Machine
end

