-- ==== Sys2Proof/Machine/Frame.lean ====
section
/-! DEFINITION. FRAME, the per-frame sequencer (spec 45_frame.md R230 to R238, 44_mode_fsm.md R208 to R211). -/
namespace Sys2Proof.Machine

/-- One scroll step of a direction: LEFT and RIGHT on XOFF, UP and DOWN on YOFF, by its sign of DIR_SIGN (R210, R11). -/
def scrollStep (d : Direction) (s : State) : State :=
  match d with
  | .right => match s.cfg.dirSign.right with
    | .plus => incXoff s
    | .minus => decXoff s
  | .left => match s.cfg.dirSign.left with
    | .plus => incXoff s
    | .minus => decXoff s
  | .up => match s.cfg.dirSign.up with
    | .plus => incYoff s
    | .minus => decYoff s
  | .down => match s.cfg.dirSign.down with
    | .plus => incYoff s
    | .minus => decYoff s

/-- Step (2): the mode advance, on the edge of BTN_ADVANCE only (R207, R230). -/
def frameAdvance (pressed : Byte) (s : State) : State :=
  if isSet pressed (.face s.cfg.btnAdvance) then advanceMode s else s

/-- `d`: HELD while BTN_MODIFIER is held, else PRESSED (R210). -/
def scrollSet (held pressed : Byte) (s : State) : Byte :=
  if isSet held (.face s.cfg.btnModifier) then held else pressed

/-- The directions in the order in which a frame performs their scroll steps (R230). -/
def scrollOrder : List Direction := [.right, .left, .up, .down]

/-- The scroll updates of a visualiser mode (R210, R230). -/
def frameScroll (held pressed : Byte) (s : State) : State :=
  scrollOrder.foldl (fun t d => if isSet (scrollSet held pressed s) (.dir d) then scrollStep d t else t) s

/-- Randomise the active table: FT2 in ViewTwoArgFunction, else FT1 (R233). -/
def reseedActive (s : State) : State :=
  match s.mode with
  | .viewTwoArgFunction => refillFt2 s
  | .visualizeOneArgFunction => refillFt1 s
  | .testPattern => refillFt1 s

/-- Draw the active table: DRAW.FN2 in ViewTwoArgFunction, else DRAW.FN1 (R230). -/
def drawActive (s : State) : State :=
  match s.mode with
  | .viewTwoArgFunction => plot2 s
  | .visualizeOneArgFunction => plot1 s
  | .testPattern => plot1 s

/-- The one branch of a visualiser mode that runs: reset, then reseed, then draw (R232). -/
def frameBranch (held pressed : Byte) (s : State) : State :=
  if triggered held pressed s.cfg.btnReset s.cfg.trigReset then paintSolid .reset s
  else if triggered held pressed s.cfg.btnReseed s.cfg.trigReseed then paintSolid .reseed (reseedActive s)
  else drawActive s

/-- The order in which a frame tests the direction edges that toggle CHK (R230). -/
def toggleOrder : List Direction := [.up, .down, .left, .right]

/-- The toggles of TestPattern (R211, R230). -/
def frameToggle (pressed : Byte) (s : State) : State :=
  toggleOrder.foldl (fun t d => if isSet pressed (.dir d) then toggleChk t else t) s

/-- The render of TestPattern (R230, R234). -/
def framePattern (s : State) : State := if s.chk then paintChecker s else paintStripe s

/-- Step (3): dispatch on the mode (R230). -/
def frameDispatch (held pressed : Byte) (s : State) : State :=
  match s.mode with
  | .viewTwoArgFunction => frameBranch held pressed (frameScroll held pressed s)
  | .visualizeOneArgFunction => frameBranch held pressed (frameScroll held pressed s)
  | .testPattern => framePattern (frameToggle pressed s)

/-- FRAME: advance, dispatch on the possibly new mode, rotate; no audio event (R230, R231, R235, R236). -/
def runFrame (held pressed : Byte) (s : State) : State :=
  emitRotate (frameDispatch held pressed (frameAdvance pressed s))

/-- FRAME (R230). -/
def execFrame (held pressed : Byte) (s : State) : Host.Outcome State Fault Refusal :=
  .next (runFrame held pressed s)

end Sys2Proof.Machine
end

