-- ==== Sys2Proof/Machine/Dispatch.lean ====
section
/-! DEFINITION. The meaning of every command: one arm per constructor of Instr (spec 30_encoding.md R81). -/
namespace Sys2Proof.Machine

def exec (i : Instr) (s : State) : Host.Outcome State Fault Refusal :=
  match i with
  | .nop => Sys2Proof.Machine.execNop s
  | .frame held pressed => Sys2Proof.Machine.execFrame held pressed s
  | .xltC2I x y => Sys2Proof.Machine.execXltC2I x y s
  | .xltI2C idx => Sys2Proof.Machine.execXltI2C idx s
  | .lut1Rd a => Sys2Proof.Machine.execLut1Rd a s
  | .lut2Rd r c => Sys2Proof.Machine.execLut2Rd r c s
  | .lut1Wr a v => Sys2Proof.Machine.execLut1Wr a v s
  | .lut2Wr r c v => Sys2Proof.Machine.execLut2Wr r c v s
  | .rand1 => Sys2Proof.Machine.execRand1 s
  | .rand2 => Sys2Proof.Machine.execRand2 s
  | .fill sel => Sys2Proof.Machine.execFill sel s
  | .patStripe => Sys2Proof.Machine.execPatStripe s
  | .patChecker => Sys2Proof.Machine.execPatChecker s
  | .drawFn1 => Sys2Proof.Machine.execDrawFn1 s
  | .drawFn2 => Sys2Proof.Machine.execDrawFn2 s
  | .modeAdv => Sys2Proof.Machine.execModeAdv s
  | .xoffInc => Sys2Proof.Machine.execXoffInc s
  | .xoffDec => Sys2Proof.Machine.execXoffDec s
  | .yoffInc => Sys2Proof.Machine.execYoffInc s
  | .yoffDec => Sys2Proof.Machine.execYoffDec s
  | .chkToggle => Sys2Proof.Machine.execChkToggle s

end Sys2Proof.Machine
end

