-- ==== Sys2Proof/Machine/Platform.lean ====
section
/-! DEFINITION. The platform at the block's boundary: the input latch, and what the host reads and writes (spec
60_exceptions.md R260, R261, R265, R267, 70_reset_and_hazards.md R294 to R298). -/
namespace Sys2Proof.Machine

/-- `press(b)`: re-arm the edge if `prev[b]` is set, then `now[b] <- 1` (R260). -/
def pressButton (b : Button) (s : State) : State :=
  { s with latchPrev := clearButton s.latchPrev b, latchNow := setButton s.latchNow b }

/-- `release(b)`: `now[b] <- 0` (R260). -/
def releaseButton (b : Button) (s : State) : State := { s with latchNow := clearButton s.latchNow b }

/-- `rotate`: `prev <- now` (R260). -/
def rotateLatch (s : State) : State := { s with latchPrev := s.latchNow }

/-- `pressed(b) = now[b] & ~prev[b]` for every b (R260). -/
def latchPressed (s : State) : Byte := s.latchNow &&& ~~~s.latchPrev

/-- The FRAME command made of a sample of the latch (R261). -/
def sampledFrame (s : State) : Instr := .frame s.latchNow (latchPressed s)

/-- The next free 32-bit value (93, treatment "any value": a fresh choice per read; log 9). -/
def freeRead (s : State) : State := { s with hostData := Config.freeWord s.choices, choices := s.choices + 1 }

/-- The host gets a value. -/
def giveHost (v : Word) (s : State) : State := { s with hostData := v }

/-- The host reads RES: defined while BUSY = 0, else any value (R296). -/
def hostReadRes (s : State) : State := if s.busy then freeRead s else giveHost s.res s

/-- The host reads STATUS: defined while BUSY = 0, else any value (R296). -/
def hostReadStatus (s : State) : State := if s.busy then freeRead s else giveHost (statusWord s) s

/-- The host reads a framebuffer cell: any value while BUSY = 1 (R295) and of a cell not written (R56). -/
def hostReadCell (i : Index) (s : State) : State :=
  if s.busy then freeRead s
  else match readFb s i with
    | some c => giveHost c s
    | none => freeRead s

/-- The cells that a host write to `i` during a command leaves unspecified: every cell the command writes (R295), and
`i` itself ("the final contents are unspecified", R295; log 10). -/
def spoiledBy (s : State) (i : Index) (a : Nat) : Bool := a == i.toNat || s.fbWrites.any fun w => w.1.toNat == a

/-- The host writes a framebuffer cell. While BUSY = 1 the cells of `spoiledBy` become unspecified (R295; log 10). While
BUSY = 0 the cell holds the host's colour and is written from then on: DESIGN CHOICE, log 21, for R267 lists no such
action and R56 speaks only of cells that commands write. -/
def hostWriteCell (i : Index) (c : Colour) (s : State) : State :=
  if s.busy then { s with fb := s.fb.filter fun p => !spoiledBy s i p.1 }
  else { s with fb := writeCell s.fb (i, c) }

/-- What an action of the host or of the input device does (R260, R267). -/
def hostEvent (e : HostEvent) (s : State) : State :=
  match e with
  | .press b => pressButton b s
  | .release b => releaseButton b s
  | .readRes => hostReadRes s
  | .readStatus => hostReadStatus s
  | .readCell i => hostReadCell i s
  | .writeCell i c => hostWriteCell i c s

/-- What happens while a command is performed. A command word presented then is not accepted, and the block ignores it
(R294). -/
def busyEvent (e : BusyEvent) (s : State) : State :=
  match e with
  | .host h => hostEvent h s
  | .command _ => s

/-- Everything that happens while a command is performed, in order. -/
def busyEvents (es : List BusyEvent) (s : State) : State := es.foldl (fun t e => busyEvent e t) s

end Sys2Proof.Machine
end

