-- ==== Sys2Proof/Machine/Reset.lean ====
section
/-! DEFINITION. The configuration check and the reset sequence (spec 60_exceptions.md R252, R263, R264,
70_reset_and_hazards.md R290, R291, R301). -/
namespace Sys2Proof.Machine

/-- The four bindings are pairwise distinct (R208, R252 (c)). -/
def bindingsDistinct (btnReset btnReseed btnModifier btnAdvance : Face) : Bool :=
  decide [btnReset, btnReseed, btnModifier, btnAdvance].Nodup

/-- Items (b), (c) and (d) of the check hold of a configuration (R252). -/
def configOk (cfg : SessionConfig) : Bool :=
  !cfg.palette.isEmpty && bindingsDistinct cfg.btnReset cfg.btnReseed cfg.btnModifier cfg.btnAdvance &&
    cfg.colourReset != cfg.colourReseed

/-- The configuration the block holds of what the port presents. A parameter that is none of its listed values is held
as its default (R11, R208, D16): the check has failed then, and no command reads it (R252; log 11). -/
def samplePort (port : ConfigPort) : SessionConfig where
  palette := port.palette
  colourBg := port.colourBg
  colourFg := port.colourFg
  colourReset := port.colourReset
  colourReseed := port.colourReseed
  btnReset := port.btnReset
  btnReseed := port.btnReseed
  btnModifier := port.btnModifier
  btnAdvance := port.btnAdvance
  trigReset := port.trigReset.getD .level
  trigReseed := port.trigReseed.getD .edge
  patternOffsetSrc := port.patternOffsetSrc.getD .xoff
  dirSign := port.dirSign.getD {}
  resetTableFill := port.resetTableFill.getD .fillFt1ThenFt2

/-- The configuration check passes (R252): (a) exactly 65536 cells, (b) `P ≥ 1`, (c) distinct bindings, (d) distinct
diagnostic colours, (e) every trigger kind and behavioural parameter one of its listed values. -/
def portOk (port : ConfigPort) : Bool :=
  port.fbCells == cellCount && configOk (samplePort port) &&
    port.trigReset.isSome && port.trigReseed.isSome && port.patternOffsetSrc.isSome && port.dirSign.isSome &&
    port.resetTableFill.isSome

/-- The registers' reset values and RNG_INIT(seed), before the configuration check (R290). The block writes neither the
framebuffer nor the input latch (R290, R291); its outputs start empty. -/
def resetRegisters (req : ResetRequest) (s : State) : State :=
  { s with
    mode := .viewTwoArgFunction, xoff := 0, yoff := 0, chk := false, res := 0, errIllegal := false,
    rng := Config.rngInit req.seed, busy := false, cfg := samplePort req.port, fbWrites := [], strobe := false }

/-- Any contents for FT1 and FT2, chosen once and then held (R290; 93 U8, U9; log 17). -/
def freeTables (s : State) : State :=
  { s with
    ft1 := freeTableFrom s.choices 0 ft1Size 0 s.ft1,
    ft2 := freeRowsFrom s.choices ft1Size rowCount 0 s.ft2,
    choices := s.choices + 1 }

/-- ERR_CONFIG (R30, R290). -/
def setErrConfig (b : Bool) (s : State) : State := { s with errConfig := b }

/-- The table fill of a session whose check has passed (R290). -/
def resetFill (s : State) : State :=
  match s.cfg.resetTableFill with
  | .fillFt1ThenFt2 => refillFt2 (refillFt1 s)
  | .unspecified => freeTables s

/-- No cell has been written since the reset that starts the session, so every cell is unspecified (R291, R292; 93 U1;
95_test_vectors.md V-RST-1). -/
def forgetCells (s : State) : State := { s with fb := [] }

/-- The reset sequence, which writes nothing to the framebuffer (R290). -/
def resetSequence (req : ResetRequest) (s : State) : State :=
  if portOk req.port then resetFill (setErrConfig false (resetRegisters req s))
  else freeTables (setErrConfig true (resetRegisters req s))

/-- A reset with no command in progress: the reset sequence, after which every framebuffer cell is unspecified (R290,
R291). What a reset that aborts a command leaves of the framebuffer is `abortWord`'s (R301; 93 U17; log 6). -/
def hostReset (req : ResetRequest) (s : State) : State := resetSequence req (forgetCells s)

end Sys2Proof.Machine
end

