-- ==== Sys2Proof/Machine/Issue.lean ====
section
/-! DEFINITION. A command from acceptance to completion, and the other actions of the outside world (spec 00_scope.md R7,
10_state.md R31, 60_exceptions.md R267, 70_reset_and_hazards.md R290, R294, R301). -/
namespace Sys2Proof.Machine

/-- Acceptance: BUSY rises, and the command has issued nothing yet (R31). -/
def accept (s : State) : State := { s with busy := true, fbWrites := [], strobe := false }

/-- Completion: BUSY falls (R31). -/
def complete (s : State) : State := { s with busy := false }

/-- The platform applies the strobe to the latch (R235, R260, R298). -/
def applyStrobe (s : State) : State := if s.strobe then rotateLatch s else s

/-- The end of a command: what happened while it ran comes before its rotate strobe (R260, R297), and that before BUSY
falls (R235; log 14). -/
def finish (during : List BusyEvent) (s : State) : State := complete (applyStrobe (busyEvents during s))

/-- Perform the command a word stands for, or raise Illegal (R82, R251, R254). -/
def performWord (cw : Word) (s : State) : Host.Outcome State Fault Refusal :=
  match decode cw with
  | .ok i => exec i s
  | .error _ => .next (raiseIllegal s)

/-- Go on with `f` from a next state. -/
def andThen (o : Host.Outcome State Fault Refusal) (f : State → State) : Host.Outcome State Fault Refusal :=
  match o with
  | .next s => .next (f s)
  | .fault r => .fault r
  | .refused r => .refused r

/-- Present a command word. It is accepted only when `cmd_ready`; otherwise the block ignores it, and the host has
dropped it (R31, R294). A host that holds the word presents it again (log 7). -/
def offerWord (cw : Word) (during : List BusyEvent) (s : State) : Host.Outcome State Fault Refusal :=
  if cmdReady s then andThen (performWord cw (accept s)) (finish during)
  else .next (busyEvents during s)

/-- A command or a reset under way: BUSY is 1 and it has issued these framebuffer writes, a reset none (R61, R290,
R295). -/
def underWay (ws : List FbWrite) (s : State) : State :=
  { s with busy := true, fb := applyWrites s.fb ws, fbWrites := ws }

/-- What a command cut short leaves of the platform: `issued` of its outputs have come out, first its framebuffer writes
in order, then, of a FRAME, the rotate strobe, after what happened while it ran (R235, R297, R301). `t` is the state the
whole command would leave (log 14). -/
def cutShort (during : List BusyEvent) (issued : Nat) (t s : State) : State :=
  let u := busyEvents during (underWay (t.fbWrites.take issued) s)
  if t.strobe && decide (t.fbWrites.length < issued) then rotateLatch u else u

/-- Assert `rst` when a command has issued `issued` of its outputs: the rest are not issued, the framebuffer holds what
was written over what it held, and reset runs (R301; 93 U17; log 6, 14). With no command in progress it is a reset. -/
def abortWord (cw : Word) (during : List BusyEvent) (issued : Nat) (req : ResetRequest) (s : State) :
    Host.Outcome State Fault Refusal :=
  if cmdReady s then andThen (performWord cw (accept s)) fun t => resetSequence req (cutShort during issued t s)
  else .next (hostReset req (busyEvents during s))

/-- One action of the outside world on an idle block (R267). -/
def takeInput (i : HostInput) (s : State) : Host.Outcome State Fault Refusal :=
  match i with
  | .command cw during => offerWord cw during s
  | .frame during => offerWord (encode (sampledFrame s)) during s
  | .host e => .next (hostEvent e s)
  | .reset during req => .next (hostReset req (busyEvents during (underWay [] s)))
  | .abort cw during issued req => abortWord cw during issued req s

/-- The word a host presents first, put before everything else the outside world does. -/
def presentFirst (cw : Word) (s : State) : State := { s with inputs := .command cw [] :: s.inputs }

/-- The outside world does one thing less. -/
def dropInput (rest : List HostInput) (s : State) : State := { s with inputs := rest }

/-- Perform the outside world's next action; with none, the block is idle and "holds all state" (R269). -/
def runNext (s : State) : Host.Outcome State Fault Refusal :=
  match s.inputs with
  | [] => .next s
  | i :: rest => takeInput i (dropInput rest s)

end Sys2Proof.Machine
end

