-- ==== Sys2Proof/Machine/Step.lean ====
section
/-! DEFINITION. One step: the outside world's next action, a command being one atomic step (spec 00_scope.md R7). -/
namespace Sys2Proof.Machine

/-- One step of the machine (R7, R267). -/
def step (s : State) : Host.Outcome State Fault Refusal := runNext s

/-- `s` with a command word presented next. The block fetches nothing (R34): the host's next command word is what a
fetch is here, and the word comes before whatever `s` had pending. -/
def State.withFetchWord (s : State) (nbits w : Nat) : State := presentFirst (commandWord nbits w) s

end Sys2Proof.Machine
end

