-- ==== Sys2Proof/Machine/Assembler.lean ====
section
/-! DEFINITION. The assembler: what a source line assembles to, pseudo-instructions included (spec 30_encoding.md R87), and
the reading of a line of text (R86). -/
namespace Sys2Proof.Machine

/-- `LUT1.LOAD t`: `LUT1.WR 0, t[0]` and so on in ascending address order (R87). -/
def loadTable (t : List Int) : List Instr := t.zipIdx.map fun p => .lut1Wr (BitVec.ofNat 8 p.2) (u8 p.1)

/-- The identity table `[0, 1, ..., 255]` (R87). -/
def identityTable : List Int := (List.range 256).map Int.ofNat

/-- `|n|` copies of `up` when `n > 0`, of `down` when `n < 0` (R87). -/
def scrollCopies (n : Int) (up down : Instr) : List Instr := List.replicate n.natAbs (if 0 < n then up else down)

/-- The commands a well-formed source line stands for (R86, R87). -/
def expand : Source → List Instr
  | .nop => [.nop]
  | .frame held pressed => [.frame (buttonVector held) (buttonVector pressed)]
  | .xltC2I x y => [.xltC2I (u8 x) (u8 y)]
  | .xltI2C idx => [.xltI2C (BitVec.ofInt 16 idx)]
  | .lut1Rd a => [.lut1Rd (u8 a)]
  | .lut2Rd r c => [.lut2Rd (u8 r) (u8 c)]
  | .lut1Wr a v => [.lut1Wr (u8 a) (u8 v)]
  | .lut2Wr r c v => [.lut2Wr (u8 r) (u8 c) (u8 v)]
  | .rand1 => [.rand1]
  | .rand2 => [.rand2]
  | .fill sel => [.fill sel]
  | .patStripe => [.patStripe]
  | .patChecker => [.patChecker]
  | .drawFn1 => [.drawFn1]
  | .drawFn2 => [.drawFn2]
  | .modeAdv => [.modeAdv]
  | .xoffInc => [.xoffInc]
  | .xoffDec => [.xoffDec]
  | .yoffInc => [.yoffInc]
  | .yoffDec => [.yoffDec]
  | .chkToggle => [.chkToggle]
  | .clear => [.fill .bg]
  | .eval1 x => [.lut1Rd (u8 x)]
  | .eval2 x y => [.lut2Rd (u8 x) (u8 y)]
  | .lut1Load t => loadTable t
  | .lut1Ident => loadTable identityTable
  | .scrollX n => scrollCopies n .xoffInc .xoffDec
  | .scrollY n => scrollCopies n .yoffInc .yoffDec
  | .pattern => []

/-- Assemble a source line: an operand outside its field's range, or PATTERN, is an assembly error (R86, R87). -/
def assemble (src : Source) : Option (List Instr) := if src.wellFormed then some (expand src) else none

/-! Reading text (R86; log 19). -/

abbrev Chars := List Char

/-- The character that opens a button set (R86). -/
def openBrace : Char := Char.ofNat 123

/-- The character that closes a button set (R86). -/
def closeBrace : Char := Char.ofNat 125

def isBlank (c : Char) : Bool := c == ' ' || c == '\t' || c == '\r'

/-- The text without blanks at its ends. -/
def trimBlanks (l : Chars) : Chars := ((l.dropWhile isBlank).reverse.dropWhile isBlank).reverse

/-- The text before a `;` (R86). -/
def stripComment (l : Chars) : Chars := l.takeWhile (· != ';')

/-- Split at the commas outside a button set or a list. -/
def splitCommas : Nat → Chars → Chars → List Chars
  | _, cur, [] => [trimBlanks cur.reverse]
  | depth, cur, c :: cs =>
    if c == openBrace || c == '[' then splitCommas (depth + 1) (c :: cur) cs
    else if c == closeBrace || c == ']' then splitCommas (depth - 1) (c :: cur) cs
    else if c == ',' && depth == 0 then trimBlanks cur.reverse :: splitCommas depth [] cs
    else splitCommas depth (c :: cur) cs

/-- The operands in a text: none in a blank one. -/
def splitOperands (l : Chars) : List Chars := if (trimBlanks l).isEmpty then [] else splitCommas 0 [] l

def decimalDigit (c : Char) : Option Nat := if '0' ≤ c ∧ c ≤ '9' then some (c.toNat - '0'.toNat) else none

def hexDigit (c : Char) : Option Nat :=
  if '0' ≤ c ∧ c ≤ '9' then some (c.toNat - '0'.toNat)
  else if 'a' ≤ c ∧ c ≤ 'f' then some (c.toNat - 'a'.toNat + 10)
  else if 'A' ≤ c ∧ c ≤ 'F' then some (c.toNat - 'A'.toNat + 10)
  else none

/-- A nonempty run of digits. -/
def parseDigits (base : Nat) (digit : Char → Option Nat) (l : Chars) : Option Int :=
  if l.isEmpty then none
  else (l.foldlM (fun n c => (digit c).map fun d => n * base + d) 0).map Int.ofNat

/-- Unsigned decimal or `0x` hex (R86). -/
def parseUnsigned (l : Chars) : Option Int :=
  match l with
  | '0' :: 'x' :: h => parseDigits 16 hexDigit h
  | l => parseDigits 10 decimalDigit l

/-- Signed decimal (R86). -/
def parseSigned (l : Chars) : Option Int :=
  match l with
  | '-' :: d => (parseDigits 10 decimalDigit d).map fun n => -n
  | l => parseDigits 10 decimalDigit l

/-- A value operand V: unsigned decimal, `0x` hex, or signed decimal (R86). -/
def parseValue (l : Chars) : Option Int :=
  match l with
  | '-' :: d => (parseDigits 10 decimalDigit d).map fun n => -n
  | l => parseUnsigned l

/-- A colour name (R86). -/
def parseColour (l : Chars) : Option ColourSel :=
  match String.ofList l with
  | "BG" => some .bg
  | "FG" => some .fg
  | "RESET" => some .reset
  | "RESEED" => some .reseed
  | _ => none

/-- A button name (R79, R86). -/
def parseButton (l : Chars) : Option Button :=
  match String.ofList l with
  | "UP" => some (.dir .up)
  | "DOWN" => some (.dir .down)
  | "LEFT" => some (.dir .left)
  | "RIGHT" => some (.dir .right)
  | "FACE0" => some (.face .face0)
  | "FACE1" => some (.face .face1)
  | "FACE2" => some (.face .face2)
  | "FACE3" => some (.face .face3)
  | _ => none

/-- What stands between two enclosing characters. -/
def enclosed (opening closing : Char) (l : Chars) : Option Chars :=
  match l with
  | [] => none
  | c :: cs => if c == opening && cs.getLast? == some closing then some cs.dropLast else none

/-- A button set (R86). -/
def parseButtons (l : Chars) : Option (List Button) :=
  (enclosed openBrace closeBrace l).bind fun inner => (splitOperands inner).mapM parseButton

/-- The list operand of LUT1.LOAD (R87). -/
def parseValues (l : Chars) : Option (List Int) :=
  (enclosed '[' ']' l).bind fun inner => (splitOperands inner).mapM parseValue

def parse1 {α β : Type} (p : Chars → Option α) (f : α → β) (a : Chars) : Option β := (p a).map f

def parse2 {α β γ : Type} (p : Chars → Option α) (q : Chars → Option β) (f : α → β → γ) (a b : Chars) : Option γ :=
  (p a).bind fun x => (q b).map (f x)

def parse3 (p q r : Chars → Option Int) (f : Int → Int → Int → Source) (a b c : Chars) : Option Source :=
  (p a).bind fun x => parse2 q r (f x) b c

/-- A mnemonic and its operands (R86, R87). -/
def parseSource (mnemonic : Chars) (operands : List Chars) : Option Source :=
  match String.ofList mnemonic, operands with
  | "NOP", [] => some .nop
  | "FRAME", [h, p] => parse2 parseButtons parseButtons .frame h p
  | "XLT.C2I", [x, y] => parse2 parseSigned parseSigned .xltC2I x y
  | "XLT.I2C", [i] => parse1 parseUnsigned .xltI2C i
  | "LUT1.RD", [a] => parse1 parseUnsigned .lut1Rd a
  | "LUT2.RD", [r, c] => parse2 parseUnsigned parseUnsigned .lut2Rd r c
  | "LUT1.WR", [a, v] => parse2 parseUnsigned parseValue .lut1Wr a v
  | "LUT2.WR", [r, c, v] => parse3 parseUnsigned parseUnsigned parseValue .lut2Wr r c v
  | "RAND1", [] => some .rand1
  | "RAND2", [] => some .rand2
  | "FILL", [c] => parse1 parseColour .fill c
  | "PAT.STRIPE", [] => some .patStripe
  | "PAT.CHECKER", [] => some .patChecker
  | "DRAW.FN1", [] => some .drawFn1
  | "DRAW.FN2", [] => some .drawFn2
  | "MODE.ADV", [] => some .modeAdv
  | "XOFF.INC", [] => some .xoffInc
  | "XOFF.DEC", [] => some .xoffDec
  | "YOFF.INC", [] => some .yoffInc
  | "YOFF.DEC", [] => some .yoffDec
  | "CHK.TOGGLE", [] => some .chkToggle
  | "CLEAR", [] => some .clear
  | "EVAL1", [x] => parse1 parseSigned .eval1 x
  | "EVAL2", [x, y] => parse2 parseSigned parseSigned .eval2 x y
  | "LUT1.LOAD", [t] => parse1 parseValues .lut1Load t
  | "LUT1.IDENT", [] => some .lut1Ident
  | "SCROLLX", [n] => parse1 parseSigned .scrollX n
  | "SCROLLY", [n] => parse1 parseSigned .scrollY n
  | "PATTERN", [] => some .pattern
  | _, _ => none

/-- Assemble one line of text: nothing for a blank line or a comment, `none` for an assembly error (R86). -/
def assembleLine (line : Chars) : Option (List Instr) :=
  let text := trimBlanks (stripComment line)
  if text.isEmpty then some []
  else (parseSource (text.takeWhile fun c => !isBlank c) (splitOperands (text.dropWhile fun c => !isBlank c))).bind
    assemble

end Sys2Proof.Machine
end

