-- ==== Sys2Proof/Safety.lean ====
section
/-! DEFINITION. What a state of a run meets, what a run can reach, and the runs that claims speak of. -/
namespace Sys2Proof.Machine

/-- What every state meets that reset and steps lead to. -/
structure Inv (s : State) : Prop where
  /-- FT1 is in canonical form. -/
  ft1Canonical : tableWf ft1Size s.ft1 = true
  /-- FT2 is in canonical form. -/
  ft2Canonical : tableWf ft2Size s.ft2 = true
  /-- The framebuffer is in canonical form. -/
  fbCanonical : framebufferWf s.fb = true
  /-- A session that accepts commands has a configuration that passed the check (R252). -/
  configChecked : s.errConfig = false → configOk s.cfg = true
  /-- A session whose check failed keeps the registers' reset values (R252). -/
  stuckAtReset : s.errConfig = true →
    s.mode = .viewTwoArgFunction ∧ s.xoff = 0 ∧ s.yoff = 0 ∧ s.chk = false ∧ s.res = 0 ∧ s.errIllegal = false ∧
      s.fbWrites = [] ∧ s.strobe = false
  /-- Between commands BUSY is 0 (R269). -/
  idle : s.busy = false

/-- `t` can be reached from `s` in any number of steps. -/
inductive Reaches : State → State → Prop where
  | refl (s : State) : Reaches s s
  | step {s t u : State} (h : step s = .next t) (hu : Reaches t u) : Reaches s u

/-- A safe run: the state carries no error bit (R250). -/
def noError (s : State) : Bool := !s.errIllegal && !s.errConfig

/-- Perform commands one after another (R61). -/
def runInstrs : List Instr → State → Host.Outcome State Fault Refusal
  | [], s => .next s
  | i :: is, s =>
    match exec i s with
    | .next t => runInstrs is t
    | .fault r => .fault r
    | .refused r => .refused r

/-- Two states hold the same tables, generator, mode and configuration. -/
def SameTables (s t : State) : Prop :=
  s.ft1 = t.ft1 ∧ s.ft2 = t.ft2 ∧ s.rng = t.rng ∧ s.mode = t.mode ∧ s.cfg = t.cfg

/-- The core's registers and tables, MODE to the configuration. -/
def coreRegisters (s : State) :=
  (s.mode, s.xoff, s.yoff, s.chk, s.rng, s.ft1, s.ft2, s.res, s.errIllegal, s.errConfig, s.busy, s.cfg)

/-- The input resets the block (R290, R301). -/
def isResetInput : HostInput → Bool
  | .command _ _ => false
  | .frame _ => false
  | .host _ => false
  | .reset _ _ => true
  | .abort _ _ _ _ => true

/-- The next action of the outside world resets the block. -/
def resetsNext (s : State) : Bool := (s.inputs.head?.map isResetInput).getD false

/-- The event is a press (R260). -/
def isPress : HostEvent → Bool
  | .press _ => true
  | .release _ => false
  | .readRes => false
  | .readStatus => false
  | .readCell _ => false
  | .writeCell _ _ => false

/-- What happens while BUSY = 1 is a press. -/
def isBusyPress : BusyEvent → Bool
  | .host e => isPress e
  | .command _ => false

/-- A press happens with or within the input. -/
def inputPresses : HostInput → Bool
  | .command _ during => during.any isBusyPress
  | .frame during => during.any isBusyPress
  | .host e => isPress e
  | .reset during _ => during.any isBusyPress
  | .abort _ during _ _ => during.any isBusyPress

/-- A press happens with the next action of the outside world. -/
def pressesNext (s : State) : Bool := (s.inputs.head?.map inputPresses).getD false

end Sys2Proof.Machine
end

