-- ==== Sys2Proof/Certificates/Slice0/Obligations.lean ====
section
/-! DEFINITION. The statements about the machine, for the provers. -/

namespace Sys2Proof.Machine

/-! What the statements are written with. -/

/-- The words with `cw & mask = value` decode to `f cw`, and every other word with the same OP is illegal for a
reserved bit (R81, R82). -/
def EncodedAs (mask value : Word) (f : Word → Instr) : Prop :=
  ∀ cw : Word, (cw &&& mask = value → decode cw = .ok (f cw)) ∧
    (opField cw = opField value → cw &&& mask ≠ value → decode cw = .error .reservedBit)

/-- One write a cell, in ascending index order. -/
def ascendingWrites (colour : Nat → Colour) : List FbWrite :=
  (List.range 65536).map fun k => (BitVec.ofNat 16 k, colour k)

/-- The command that moves XOFF by a sign. -/
def xoffCommand : Sign → Instr
  | .plus => .xoffInc
  | .minus => .xoffDec

/-- The command that moves YOFF by a sign. -/
def yoffCommand : Sign → Instr
  | .plus => .yoffInc
  | .minus => .yoffDec

/-- The commands a list of optional steps performs. -/
def chosen (steps : List (Bool × Instr)) : List Instr := (steps.filter fun p => p.1).map fun p => p.2

/-- Step (3) of a frame in a visualiser mode, as commands (R230). -/
def visualiserPlan (held pressed : Byte) (cfg : SessionConfig) (two : Bool) : List Instr :=
  let d := if isSet held (.face cfg.btnModifier) then held else pressed
  chosen [(isSet d (.dir .right), xoffCommand cfg.dirSign.right), (isSet d (.dir .left), xoffCommand cfg.dirSign.left),
    (isSet d (.dir .up), yoffCommand cfg.dirSign.up), (isSet d (.dir .down), yoffCommand cfg.dirSign.down)] ++
  if triggered held pressed cfg.btnReset cfg.trigReset then [.fill .reset]
  else if triggered held pressed cfg.btnReseed cfg.trigReseed then [if two then .rand2 else .rand1, .fill .reseed]
  else [if two then .drawFn2 else .drawFn1]

/-- How many of the four directions have an edge. -/
def edgeCount (pressed : Byte) : Nat :=
  ([.up, .down, .left, .right].filter fun d => isSet pressed (.dir d)).length

/-- CHK after as many toggles as there are direction edges (R211). -/
def chkAfterEdges (pressed : Byte) (chk : Bool) : Bool := if edgeCount pressed % 2 = 1 then !chk else chk

/-- The commands a frame performs, in order (R230). -/
def framePlan (held pressed : Byte) (s : State) : List Instr :=
  let adv := isSet pressed (.face s.cfg.btnAdvance)
  (if adv then [.modeAdv] else []) ++
  match (if adv then nextMode s.mode else s.mode) with
  | .viewTwoArgFunction => visualiserPlan held pressed s.cfg true
  | .visualizeOneArgFunction => visualiserPlan held pressed s.cfg false
  | .testPattern => List.replicate (edgeCount pressed) .chkToggle ++
      [if chkAfterEdges pressed s.chk then .patChecker else .patStripe]

/-- The mode a frame renders with (R231). -/
def frameMode (pressed : Byte) (s : State) : Mode :=
  if isSet pressed (.face s.cfg.btnAdvance) then nextMode s.mode else s.mode

/-- How often a direction of a frame counts: 1 if it scrolls, else 0. -/
def scrollCount (held pressed : Byte) (s : State) (d : Direction) : Byte :=
  if isSet (if isSet held (.face s.cfg.btnModifier) then held else pressed) (.dir d) then 1 else 0

/-- The configuration port that presents a configuration, with a framebuffer of 65536 cells. -/
def portOf (cfg : SessionConfig) : ConfigPort where
  fbCells := 65536
  palette := cfg.palette
  colourBg := cfg.colourBg
  colourFg := cfg.colourFg
  colourReset := cfg.colourReset
  colourReseed := cfg.colourReseed
  btnReset := cfg.btnReset
  btnReseed := cfg.btnReseed
  btnModifier := cfg.btnModifier
  btnAdvance := cfg.btnAdvance
  trigReset := some cfg.trigReset
  trigReseed := some cfg.trigReseed
  patternOffsetSrc := some cfg.patternOffsetSrc
  dirSign := some cfg.dirSign
  resetTableFill := some cfg.resetTableFill

end Sys2Proof.Machine

open Sys2Proof Sys2Proof.Machine

/-! Encoding (30_encoding.md). -/

/-- R84, R81: decoding reads back every command from its word, with every operand at every value. -/
def Obligations.DecodeOfEncode : Prop := ∀ i : Instr, decode (encode i) = .ok i

/-- R84: a word that decodes is the word of the command it decodes to, so no two words stand for one command. -/
def Obligations.EncodeOfDecode : Prop := ∀ (cw : Word) (i : Instr), decode cw = .ok i → encode i = cw

/-- R84. -/
def Obligations.DecodeFollowsOpcodeMap : Prop :=
  (∀ cw : Word,
    ((∃ row ∈ opcodeTable, row.matches cw = true ∧ (∀ row' ∈ opcodeTable, row'.matches cw = true → row' = row) ∧
        ∃ i, decode cw = .ok i ∧ mnemonicOf i = row.mnemonic) ∨
      ((∀ row ∈ opcodeTable, row.matches cw = false) ∧ ∃ e, decode cw = .error e))) ∧
  opcodeTable.Pairwise fun a b => opField a.value ≠ opField b.value

/-- R82: which words are illegal, and what executing one does. -/
def Obligations.IllegalWordOnlySetsErrIllegal : Prop :=
  (∀ cw : Word, decode cw = .error .unassignedOp ↔ ∀ row ∈ opcodeTable, opField row.value ≠ opField cw) ∧
  (∀ cw : Word, decode cw = .error .reservedBit ↔
    ∃ row ∈ opcodeTable, opField row.value = opField cw ∧ cw &&& row.mask ≠ row.value) ∧
  (∀ cw : Word, opField cw = 0x23 → ∃ i, decode cw = .ok i) ∧
  ∀ (s : State) (cw : Word) (rest : List HostInput) (e : IllegalWord),
    cmdReady s = true → s.inputs = .command cw [] :: rest → decode cw = .error e →
      step s = .next { s with errIllegal := true, busy := false, inputs := rest, fbWrites := [], strobe := false }

/-- 30_encoding.md section 4: words written out from the format tables stand for the commands they stand for. -/
def Obligations.ExampleWordsDecode : Prop :=
  decode 0x00000000 = .ok .nop ∧ decode 0x1000807F = .ok (.xltC2I 0x80 0x7F) ∧
  decode 0x11008080 = .ok (.xltI2C 0x8080) ∧ decode 0x210003C8 = .ok (.lut2Rd 3 200) ∧
  decode 0x220005FE = .ok (.lut1Wr 5 0xFE) ∧ decode 0x23010203 = .ok (.lut2Wr 1 2 3) ∧
  decode 0x30000003 = .ok (.fill .reseed) ∧ decode 0x01004100 = .ok (.frame 0x41 0) ∧
  decode 0x40000000 = .ok .modeAdv ∧ decode 0x40000001 = .error .reservedBit ∧
  decode 0xFF000000 = .error .unassignedOp

/-! The step, the handshake and the error bits (00_scope.md, 10_state.md, 60_exceptions.md). -/

/-- R7, R31: a step performs the decoded command at the state in which it is accepted, then lets what happened during it
take effect, rotates the latch on the strobe, and lets BUSY fall. -/
def Obligations.StepRunsDecodedCommand : Prop :=
  ∀ (s : State) (cw : Word) (during : List BusyEvent) (rest : List HostInput) (i : Instr) (t : State),
    s.busy = false → s.errConfig = false → s.inputs = .command cw during :: rest → decode cw = .ok i →
    exec i { s with inputs := rest, busy := true, fbWrites := [], strobe := false } = .next t →
      step s = .next { (if t.strobe then rotateLatch (busyEvents during t) else busyEvents during t) with
        busy := false }

/-- R250, R253: no step faults or refuses. The two rules speak of accepted commands; that a state answers a next state
too when a word is presented while not ready, when the session is stuck, and when nothing is pending is the model's
choice (log 1, 7). -/
def Obligations.EveryStepCompletes : Prop := ∀ s : State, ∃ t, step s = .next t

/-- R294: a command word presented while cmd_ready = 0 is ignored; what else happens meanwhile happens. That the word is
then gone, the host having dropped it, is the model's choice (log 7): R294 lets the host hold it or drop it. -/
def Obligations.WordIgnoredWhileNotReady : Prop :=
  (∀ s : State, cmdReady s = (!s.busy && !s.errConfig)) ∧
  (∀ (s : State) (cw : Word) (during : List BusyEvent) (rest : List HostInput), cmdReady s = false →
    s.inputs = .command cw during :: rest → step s = .next (busyEvents during { s with inputs := rest })) ∧
  ∀ (cw : Word) (s : State), busyEvent (.command cw) s = s

/-- R29: ERR_ILLEGAL is set by an illegal word, cleared by reset, and by nothing else; STATUS[4] shows it. -/
def Obligations.ErrIllegalIsSticky : Prop :=
  (∀ (s t : State) (cw : Word) (during : List BusyEvent) (rest : List HostInput) (e : IllegalWord),
    cmdReady s = true → s.inputs = .command cw during :: rest → decode cw = .error e → step s = .next t →
      t.errIllegal = true) ∧
  (∀ s t : State, step s = .next t → s.errIllegal = true → resetsNext s = false → t.errIllegal = true) ∧
  (∀ (s t : State) (i : Instr), exec i s = .next t → t.errIllegal = s.errIllegal) ∧
  (∀ (req : ResetRequest) (s : State), (hostReset req s).errIllegal = false) ∧
  State.reset.errIllegal = false ∧ ∀ s : State, (statusWord s).getLsbD 4 = s.errIllegal

/-- R252: the configuration check, and the session of a configuration that fails it. That every choice of the four signs
of DIR_SIGN passes, and that a value outside a parameter's list is presented as `none`, is the model's choice (log 12,
log 11): R11 lists no values of DIR_SIGN but its default. -/
def Obligations.FailedConfigurationIsStuck : Prop :=
  (∀ p : ConfigPort, portOk p = true ↔
    p.fbCells = 65536 ∧ 1 ≤ p.palette.length ∧
    [p.btnAdvance, p.btnModifier, p.btnReset, p.btnReseed].Pairwise (fun a b => a ≠ b) ∧
    p.colourReset ≠ p.colourReseed ∧ p.trigReset ≠ none ∧ p.trigReseed ≠ none ∧ p.patternOffsetSrc ≠ none ∧
    p.dirSign ≠ none ∧ p.resetTableFill ≠ none) ∧
  (∀ (req : ResetRequest) (s : State), portOk req.port = false →
    let t := hostReset req s
    t.errConfig = true ∧ cmdReady t = false ∧ t.rng = Config.rngInit req.seed ∧ t.mode = .viewTwoArgFunction ∧
    t.xoff = 0 ∧ t.yoff = 0 ∧ t.chk = false ∧ t.res = 0 ∧ t.errIllegal = false ∧ t.busy = false ∧
    statusWord t = 0x00000020) ∧
  ∀ s t : State, s.errConfig = true → resetsNext s = false → step s = .next t → coreRegisters t = coreRegisters s

/-- R35: the configuration is constant for the session. That it is held in State is the model's choice (log 11). -/
def Obligations.ConfigurationConstantInSession : Prop :=
  ∀ s t : State, step s = .next t → resetsNext s = false → t.cfg = s.cfg

/-- R32, R20: every field of STATUS, and that it changes only through the commands that own it. -/
def Obligations.StatusLayout : Prop :=
  (∀ s : State,
    (statusWord s).extractLsb' 0 2 = Mode.code s.mode ∧ (statusWord s).getLsbD 2 = s.chk ∧
    (statusWord s).getLsbD 3 = s.busy ∧ (statusWord s).getLsbD 4 = s.errIllegal ∧
    (statusWord s).getLsbD 5 = s.errConfig ∧ (statusWord s).extractLsb' 6 2 = 0#2 ∧
    (statusWord s).extractLsb' 8 8 = s.xoff ∧ (statusWord s).extractLsb' 16 8 = s.yoff ∧
    (statusWord s).extractLsb' 24 8 = 0#8) ∧
  Mode.code .viewTwoArgFunction = 0 ∧ Mode.code .visualizeOneArgFunction = 1 ∧ Mode.code .testPattern = 2 ∧
  (∀ (i : Instr) (s t : State), exec i s = .next t → (∀ held pressed, i ≠ .frame held pressed) →
    (t.mode ≠ s.mode → i = .modeAdv) ∧ (t.chk ≠ s.chk → i = .chkToggle) ∧
    (t.xoff ≠ s.xoff → i = .xoffInc ∨ i = .xoffDec) ∧ (t.yoff ≠ s.yoff → i = .yoffInc ∨ i = .yoffDec)) ∧
  (∀ (i : Instr) (s t : State), exec i s = .next t →
    t.busy = s.busy ∧ t.errIllegal = s.errIllegal ∧ t.errConfig = s.errConfig) ∧
  ∀ (req : ResetRequest) (s : State),
    statusWord (hostReset req s) = if portOk req.port then 0x00000000 else 0x00000020

/-- R28: RES is written by the four commands that return a value, each in its layout, and by reset, and by nothing
else. -/
def Obligations.ResWrittenByFourCommands : Prop :=
  (∀ (i : Instr) (s t : State), exec i s = .next t →
    (∀ x y, i ≠ .xltC2I x y) → (∀ idx, i ≠ .xltI2C idx) → (∀ a, i ≠ .lut1Rd a) → (∀ r c, i ≠ .lut2Rd r c) →
      t.res = s.res) ∧
  (∀ (i : Instr) (s t : State), exec i s = .next t →
    (∀ x y, i = .xltC2I x y → t.res = (toIndex x y).setWidth 32) ∧
    (∀ idx, i = .xltI2C idx → t.res = 0#16 ++ (toCoord idx).1 ++ (toCoord idx).2) ∧
    (∀ a, i = .lut1Rd a → t.res = (readFt1 s a).setWidth 32) ∧
    ∀ r c, i = .lut2Rd r c → t.res = (readFt2 s r c).setWidth 32) ∧
  (∀ s : State, s.busy = false → (hostEvent .readRes s).hostData = s.res) ∧
  ∀ (req : ResetRequest) (s : State), (hostReset req s).res = 0x00000000

/-- R21: MODE is never 3, and its only write is `MODE <- (MODE + 1) mod 3`, by MODE.ADV or inside FRAME. -/
def Obligations.ModeOnlyAdvances : Prop :=
  (∀ s : State, (statusWord s).extractLsb' 0 2 ≠ 3#2) ∧
  (∀ m : Mode, (Mode.code (nextMode m)).toNat = ((Mode.code m).toNat + 1) % 3) ∧
  (∀ (req : ResetRequest) (s : State), Mode.code (hostReset req s).mode = 0) ∧
  ∀ (i : Instr) (s t : State), exec i s = .next t →
    t.mode = s.mode ∨ t.mode = nextMode s.mode ∧ (i = .modeAdv ∨ ∃ held pressed, i = .frame held pressed)

/-- R131, R128, R129: FRAME draws only in its reseed branch, RAND1 and RAND2 draw, and no other command does. -/
def Obligations.OnlyRandomisationDraws : Prop :=
  (∀ (i : Instr) (s t : State), exec i s = .next t → i ≠ .rand1 → i ≠ .rand2 →
    (∀ held pressed, i ≠ .frame held pressed) → t.rng = s.rng) ∧
  (∀ s t : State, exec .rand1 s = .next t → t.rng = afterDraws 256 s.rng) ∧
  (∀ s t : State, exec .rand2 s = .next t → t.rng = afterDraws 65536 s.rng) ∧
  ∀ (held pressed : Byte) (s t : State), exec (.frame held pressed) s = .next t →
    t.rng = if triggered held pressed s.cfg.btnReset s.cfg.trigReset = false ∧
        triggered held pressed s.cfg.btnReseed s.cfg.trigReseed = true then
      match frameMode pressed s with
      | .viewTwoArgFunction => afterDraws 65536 s.rng
      | .visualizeOneArgFunction => afterDraws 256 s.rng
      | .testPattern => s.rng
    else s.rng

/-- R235: the strobe is emitted by FRAME and by no other command. -/
def Obligations.OnlyFrameEmitsStrobe : Prop :=
  ∀ (i : Instr) (s t : State), s.strobe = false → exec i s = .next t →
    (t.strobe = true ↔ ∃ held pressed, i = .frame held pressed)

/-- R55, R61: a command's framebuffer is the one before it with its write list applied in order, last write winning. -/
def Obligations.LastWriteToCellWins : Prop :=
  (∀ (m : Framebuffer) (ws : List FbWrite) (w : FbWrite) (i : Index),
    lookup (applyWrites m (ws ++ [w])) i.toNat =
      if i = w.1 then some w.2 else lookup (applyWrites m ws) i.toNat) ∧
  ∀ (i : Instr) (s t : State), exec i s = .next t →
    ∃ ws, t.fbWrites = s.fbWrites ++ ws ∧ t.fb = applyWrites s.fb ws

/-- R261, R54: what a command does to the core, which writes it issues and whether it emits the strobe do not depend on
the latch, on the outside world's side or on what was issued before, the framebuffer included; and it leaves the latch
and the outside world's side as they are. -/
def Obligations.CommandsNeverReadLatch : Prop :=
  ∀ (i : Instr) (s t : State), exec i s = .next t → ∃ (ws : List FbWrite) (emits : Bool),
    t.fbWrites = s.fbWrites ++ ws ∧ (emits = true ↔ ∃ held pressed, i = .frame held pressed) ∧
    ∀ (now prev : Byte) (ins : List HostInput) (data : Word) (n : Nat) (m : Framebuffer) (earlier : List FbWrite)
      (emitted : Bool),
      exec i { s with latchNow := now, latchPrev := prev, inputs := ins, hostData := data, choices := n, fb := m,
                      fbWrites := earlier, strobe := emitted } =
        .next { t with latchNow := now, latchPrev := prev, inputs := ins, hostData := data, choices := n,
                       fb := applyWrites m ws, fbWrites := earlier ++ ws, strobe := emits || emitted }

/-! Invariants. -/

/-- 00_scope.md R19, 20_memory.md R50, 60_exceptions.md R252: every step keeps the invariant. The canonical form of the
memories, the configuration held in State and the lack of a state with BUSY = 1 between steps are how the model holds
them (log 5, 11, 15). -/
def Obligations.StepKeepsInv : Prop := ∀ s t : State, Inv s → step s = .next t → Inv t

/-- 70_reset_and_hazards.md R291: the state right after reset meets the invariant. The session that `State.reset` stands
for, and its values that the spec does not give, are the model's choice (log 2, 3). -/
def Obligations.ResetMeetsInv : Prop := Inv State.reset

/-! Reset (70_reset_and_hazards.md). -/

/-- R290, R291: what a reset with no command in progress leaves, and that a step which resets does so, after what
happened meanwhile. That every cell is unwritten after such a reset, and kept by one that aborts a command, is how the
model reads R291 beside R301 (log 6); that the configuration is then the sampled one in State is log 11. -/
def Obligations.ResetSequence : Prop :=
  (∀ (s : State) (during : List BusyEvent) (req : ResetRequest) (rest : List HostInput),
    s.inputs = .reset during req :: rest →
      step s = .next (hostReset req (busyEvents during { s with inputs := rest, busy := true, fbWrites := [] }))) ∧
  ∀ (req : ResetRequest) (s : State),
    let t := hostReset req s
    let g := Config.rngInit req.seed
    t.mode = .viewTwoArgFunction ∧ t.xoff = 0 ∧ t.yoff = 0 ∧ t.chk = false ∧ t.res = 0 ∧ t.errIllegal = false ∧
    t.errConfig = !portOk req.port ∧ t.busy = false ∧ t.cfg = samplePort req.port ∧
    (∀ i, readFb t i = none) ∧ t.latchNow = s.latchNow ∧ t.latchPrev = s.latchPrev ∧
    (portOk req.port = true → req.port.resetTableFill = some .fillFt1ThenFt2 →
      (∀ a, readFt1 t a = drawnByte (afterDraws a.toNat g)) ∧
      (∀ r c, readFt2 t r c = drawnByte (afterDraws (256 + (r.toNat * 256 + c.toNat)) g)) ∧
      t.rng = afterDraws 65792 g) ∧
    (portOk req.port = true → req.port.resetTableFill = some .unspecified → t.rng = g) ∧
    (portOk req.port = false → t.rng = g)

/-- 70_reset_and_hazards.md R290: `State.reset` is what the reset sequence leaves; the session it stands for is the model's
choice (notes/assumptions/2.md, 3.md). -/
def Obligations.ResetStateIsAfterReset : Prop :=
  hostReset ⟨Config.seed, portOf Config.session⟩ State.reset = State.reset ∧
  portOk (portOf Config.session) = true ∧ cmdReady State.reset = true ∧ statusWord State.reset = 0 ∧
  State.reset.res = 0 ∧ ∀ i, readFb State.reset i = none

/-- R301: a reset that aborts a command keeps the prefix of its writes that was issued, over the cells' earlier values,
and starts a new session. That the cells are kept where R291 calls them unspecified is log 6; that the strobe counts as
the output after the last write (R235), so that a later abort finds the latch rotated, is log 14. `v` is the state after
what happened while the command ran. -/
def Obligations.ResetAbortsCommand : Prop :=
  ∀ (s t u : State) (cw : Word) (i : Instr) (during : List BusyEvent) (n : Nat) (req : ResetRequest)
    (rest : List HostInput),
    cmdReady s = true → s.inputs = .abort cw during n req :: rest → decode cw = .ok i →
    exec i { s with inputs := rest, busy := true, fbWrites := [], strobe := false } = .next t → step s = .next u →
      let v := busyEvents during { s with inputs := rest, busy := true, fb := applyWrites s.fb (t.fbWrites.take n),
                                          fbWrites := t.fbWrites.take n }
      (during = [] → u.fb = applyWrites s.fb (t.fbWrites.take n)) ∧ u.fb = v.fb ∧ u.mode = .viewTwoArgFunction ∧ u.xoff = 0 ∧ u.yoff = 0 ∧
      u.chk = false ∧ u.res = 0 ∧ u.errIllegal = false ∧ u.busy = false ∧ u.errConfig = !portOk req.port ∧
      u.latchNow = v.latchNow ∧
      u.latchPrev = (if t.strobe = true ∧ t.fbWrites.length < n then v.latchNow else v.latchPrev) ∧
      coreRegisters u = coreRegisters (hostReset req v)

/-! The coordinate bijection (40_translator.md). -/

/-- R100, R101, R102: the corner transform and the two formulas. -/
def Obligations.CornerAndIndexFormulas : Prop :=
  (∀ v : Byte, ((corner v).toNat : Int) = (s8 v + 128) % 256 ∧ corner v = v ^^^ 0x80) ∧
  (∀ b : Byte, s8 (uncorner b) = s8 (u8 (((b.toNat : Int) - 128) % 256))) ∧
  (∀ v : Byte, uncorner (corner v) = v) ∧ (∀ b : Byte, corner (uncorner b) = b) ∧
  (corner (u8 (-128)) = 0 ∧ corner (u8 0) = 128 ∧ corner (u8 127) = 255) ∧
  (∀ x y : Byte, (toIndex x y).toNat = (256 - (corner y).toNat) % 256 * 256 + (corner x).toNat) ∧
  ∀ i : Index, ((corner (toCoord i).1).toNat = i.toNat % 256) ∧
    ((corner (toCoord i).2).toNat = (256 - i.toNat / 256) % 256)

/-- R103, R104: the bijection. -/
def Obligations.TranslatorIsBijection : Prop :=
  (∀ i : Index, toIndex (toCoord i).1 (toCoord i).2 = i) ∧
  (∀ x y : Byte, toCoord (toIndex x y) = (x, y)) ∧
  (∀ x y x' y' : Byte, toIndex x y = toIndex x' y' → x = x' ∧ y = y') ∧
  ∀ i : Index, ∃ x y, toIndex x y = i

/-- R105: which coordinate each row and column holds. -/
def Obligations.TranslatorGeometry : Prop :=
  ∀ i : Index,
    s8 (toCoord i).1 = (i.toNat % 256 : Nat) - 128 ∧
    (i.toNat / 256 = 0 → s8 (toCoord i).2 = -128) ∧
    (i.toNat / 256 ≠ 0 → s8 (toCoord i).2 = 128 - (i.toNat / 256 : Nat)) ∧
    ((i.toNat / 256 : Nat) : Int) = (128 - s8 (toCoord i).2) % 256

/-- R106. -/
def Obligations.XltC2IResult : Prop :=
  EncodedAs 0xFFFF0000 0x10000000 (fun cw => .xltC2I (byte1 cw) (byte0 cw)) ∧
  (∀ (x y : Byte) (s : State), ∃ t, exec (.xltC2I x y) s = .next t ∧ t = { s with res := t.res } ∧
    t.res.toNat = (toIndex x y).toNat) ∧
  toIndex (u8 (-128)) (u8 (-128)) = 0x0000 ∧ toIndex (u8 127) (u8 (-128)) = 0x00FF ∧
  toIndex (u8 (-128)) (u8 127) = 0x0100 ∧ toIndex (u8 0) (u8 0) = 0x8080 ∧ toIndex (u8 127) (u8 (-127)) = 0xFFFF ∧
  decode 0x100005FD = .ok (.xltC2I (u8 5) (u8 (-3))) ∧ toIndex (u8 5) (u8 (-3)) = 0x8385

/-- R107. -/
def Obligations.XltI2CResult : Prop :=
  EncodedAs 0xFFFF0000 0x11000000 (fun cw => .xltI2C (idxField cw)) ∧
  (∀ (i : Index) (s : State), ∃ t, exec (.xltI2C i) s = .next t ∧ t = { s with res := t.res } ∧
    t.res.toNat = (toCoord i).1.toNat * 256 + (toCoord i).2.toNat ∧
    byte1 t.res = (toCoord i).1 ∧ byte0 t.res = (toCoord i).2 ∧ exec (.xltC2I (byte1 t.res) (byte0 t.res)) t =
      .next { t with res := i.setWidth 32 }) ∧
  toCoord 0x0000 = (u8 (-128), u8 (-128)) ∧ toCoord 0x0100 = (u8 (-128), u8 127) ∧ toCoord 0x8080 = (u8 0, u8 0) ∧
  toCoord 0xFFFF = (u8 127, u8 (-127)) ∧ toCoord 0xFF00 = (u8 (-128), u8 (-127)) ∧
  decode 0x11001234 = .ok (.xltI2C 0x1234) ∧ toCoord 0x1234 = (u8 (-76), u8 110)

/-! The lookup engine (41_lookup.md). -/

/-- R123. -/
def Obligations.Lut1RdResult : Prop :=
  EncodedAs 0xFFFFFF00 0x20000000 (fun cw => .lut1Rd (byte0 cw)) ∧
  ∀ (a : Byte) (s : State), ∃ t, exec (.lut1Rd a) s = .next t ∧ t = { s with res := t.res } ∧
    t.res.toNat = (readFt1 s a).toNat ∧ ∀ x : Int, u8 x = a → s8 (byte0 t.res) = f1 s x

/-- R124. -/
def Obligations.Lut2RdResult : Prop :=
  EncodedAs 0xFFFF0000 0x21000000 (fun cw => .lut2Rd (byte1 cw) (byte0 cw)) ∧
  (∀ (r c : Byte) (s : State), ∃ t, exec (.lut2Rd r c) s = .next t ∧ t = { s with res := t.res } ∧
    t.res.toNat = (readFt2 s r c).toNat ∧ ∀ x y : Int, u8 x = r → u8 y = c → s8 (byte0 t.res) = f2 s x y) ∧
  (∀ r c : Byte, r ≠ c → ft2Address r c ≠ ft2Address c r) ∧ decode 0x210003C8 = .ok (.lut2Rd 3 200)

/-- R125. -/
def Obligations.Lut1WrWritesOneEntry : Prop :=
  EncodedAs 0xFFFF0000 0x22000000 (fun cw => .lut1Wr (byte1 cw) (byte0 cw)) ∧
  (∀ (a v : Byte) (s : State), ∃ t, exec (.lut1Wr a v) s = .next t ∧ t = { s with ft1 := t.ft1 } ∧
    readFt1 t a = v ∧ ∀ n : Nat, n ≠ a.toNat → readTable t.ft1 n = readTable s.ft1 n) ∧
  decode 0x220005FE = .ok (.lut1Wr 5 0xFE) ∧
  ∀ s t : State, exec (.lut1Wr 5 0xFE) s = .next t → f1 t 5 = -2

/-- R126. -/
def Obligations.Lut2WrWritesOneEntry : Prop :=
  EncodedAs 0xFF000000 0x23000000 (fun cw => .lut2Wr (byte2 cw) (byte1 cw) (byte0 cw)) ∧
  (∀ (r c v : Byte) (s : State), ∃ t, exec (.lut2Wr r c v) s = .next t ∧ t = { s with ft2 := t.ft2 } ∧
    readFt2 t r c = v ∧ (∀ r' c', (r', c') ≠ (r, c) → readFt2 t r' c' = readFt2 s r' c') ∧
    ∀ n : Nat, n ≠ r.toNat * 256 + c.toNat → readTable t.ft2 n = readTable s.ft2 n) ∧
  decode 0x23010203 = .ok (.lut2Wr 1 2 3)

/-- R128, R127. -/
def Obligations.Rand1Fills256Draws : Prop :=
  EncodedAs 0xFFFFFFFF 0x24000000 (fun _ => .rand1) ∧
  ∀ s : State, ∃ t, exec .rand1 s = .next t ∧ t = { s with ft1 := t.ft1, rng := t.rng } ∧
    (∀ a, readFt1 t a = drawnByte (afterDraws a.toNat s.rng)) ∧ t.rng = afterDraws 256 s.rng ∧
    ∀ n : Nat, 256 ≤ n → readTable t.ft1 n = readTable s.ft1 n

/-- R129, R127. -/
def Obligations.Rand2Fills65536Draws : Prop :=
  EncodedAs 0xFFFFFFFF 0x25000000 (fun _ => .rand2) ∧
  ∀ s : State, ∃ t, exec .rand2 s = .next t ∧ t = { s with ft2 := t.ft2, rng := t.rng } ∧
    (∀ r c, readFt2 t r c = drawnByte (afterDraws (256 * r.toNat + c.toNat) s.rng)) ∧
    t.rng = afterDraws 65536 s.rng ∧ ∀ n : Nat, 65536 ≤ n → readTable t.ft2 n = readTable s.ft2 n

/-- R130: sessions that agree on the tables, the generator, the mode and the configuration agree on them after any list
of commands; two resets with one seed agree on the generator, and with one configuration and the default fill on all of
them. That R130 is read of two sessions with one list of commands is log 20. -/
def Obligations.RandomisationIsReproducible : Prop :=
  (∀ (is : List Instr) (s t s' t' : State), SameTables s t →
    runInstrs is s = .next s' → runInstrs is t = .next t' → SameTables s' t') ∧
  (∀ (req : ResetRequest) (s t : State), (hostReset req s).rng = (hostReset req t).rng) ∧
  ∀ (req : ResetRequest) (s t : State), Inv s → Inv t → portOk req.port = true →
    req.port.resetTableFill = some .fillFt1ThenFt2 → SameTables (hostReset req s) (hostReset req t)

/-! The pattern generator (42_pattern.md). -/

/-- R152, R151. -/
def Obligations.PatStripePaintsStripes : Prop :=
  EncodedAs 0xFFFFFFFF 0x31000000 (fun _ => .patStripe) ∧
  ∀ s : State, ∃ t, exec .patStripe s = .next t ∧ t = { s with fb := t.fb, fbWrites := t.fbWrites } ∧
    ∀ off : Nat, off = (match s.cfg.patternOffsetSrc with | .xoff => s.xoff | .yoff => s.yoff).toNat %
        s.cfg.palette.length →
      ∀ h : 0 < s.cfg.palette.length,
        (∀ i, readFb t i = some (s.cfg.palette[(i.toNat + off) % s.cfg.palette.length]'(Nat.mod_lt _ h))) ∧
        t.fbWrites = s.fbWrites ++ ascendingWrites fun k =>
          s.cfg.palette[(k + off) % s.cfg.palette.length]'(Nat.mod_lt _ h)

/-- R153, R151. -/
def Obligations.PatCheckerPaintsCheckerboard : Prop :=
  EncodedAs 0xFFFFFFFF 0x32000000 (fun _ => .patChecker) ∧
  ∀ s : State, ∃ t, exec .patChecker s = .next t ∧ t = { s with fb := t.fb, fbWrites := t.fbWrites } ∧
    ∀ off : Nat, off = (match s.cfg.patternOffsetSrc with | .xoff => s.xoff | .yoff => s.yoff).toNat %
        s.cfg.palette.length →
      ∀ h : 0 < s.cfg.palette.length,
        (∀ i, readFb t i =
          some (s.cfg.palette[(i.toNat + off + i.toNat / 256) % s.cfg.palette.length]'(Nat.mod_lt _ h))) ∧
        t.fbWrites = s.fbWrites ++ ascendingWrites fun k =>
          s.cfg.palette[(k + off + k / 256) % s.cfg.palette.length]'(Nat.mod_lt _ h)

/-! The visualiser (43_visualizer.md). -/

/-- R171. -/
def Obligations.FillPaintsOneColour : Prop :=
  EncodedAs 0xFFFFFFFC 0x30000000 (fun cw => .fill (ColourSel.ofCode (selField cw))) ∧
  (∀ sel : ColourSel, ∃ v : BitVec 2, sel = ColourSel.ofCode v) ∧
  ∀ (v : BitVec 2) (s : State) (c : Colour),
    [s.cfg.colourBg, s.cfg.colourFg, s.cfg.colourReset, s.cfg.colourReseed][v.toNat]? = some c →
    ∃ t, exec (.fill (ColourSel.ofCode v)) s = .next t ∧ t = { s with fb := t.fb, fbWrites := t.fbWrites } ∧
      (∀ i, readFb t i = some c) ∧ t.fbWrites = s.fbWrites ++ ascendingWrites fun _ => c

/-- R172, R170: DRAW.FN1 paints the background, then the graph of f1 for x ascending. -/
def Obligations.DrawFn1PlotsFunction : Prop :=
  EncodedAs 0xFFFFFFFF 0x33000000 (fun _ => .drawFn1) ∧
  ∀ s : State, ∃ t, exec .drawFn1 s = .next t ∧ t = { s with fb := t.fb, fbWrites := t.fbWrites } ∧
    t.fbWrites = s.fbWrites ++ (ascendingWrites fun _ => s.cfg.colourBg) ++
      (List.range 256).map (fun (k : Nat) =>
        (toIndex (u8 ((k : Int) - 128)) (u8 (f1 s ((k : Int) - 128))), s.cfg.colourFg)) ∧
    ∀ i, readFb t i = some (if s8 (toCoord i).2 = f1 s (s8 (toCoord i).1) then s.cfg.colourFg else s.cfg.colourBg)

/-- R173: after DRAW.FN1 exactly 256 cells are foreground cells, one in each column. -/
def Obligations.DrawFn1Paints256Cells : Prop :=
  ∀ s t : State, exec .drawFn1 s = .next t → ∃ cells : Finset Index,
    cells.card = 256 ∧ (∀ i, i ∈ cells ↔ ∃ x : Byte, i = toIndex x (readFt1 s x)) ∧
    (∀ c : Byte, ∃ i ∈ cells, i.extractLsb' 0 8 = c ∧ ∀ j ∈ cells, j.extractLsb' 0 8 = c → j = i) ∧
    ∀ i, readFb t i = some (if i ∈ cells then s.cfg.colourFg else s.cfg.colourBg)

/-- R174, R170: DRAW.FN2 paints the background, then the translated plane in ascending source order. -/
def Obligations.DrawFn2PlotsRowFunctions : Prop :=
  EncodedAs 0xFFFFFFFF 0x34000000 (fun _ => .drawFn2) ∧
  ∀ s : State, ∃ t, exec .drawFn2 s = .next t ∧ t = { s with fb := t.fb, fbWrites := t.fbWrites } ∧
    t.fbWrites = s.fbWrites ++ (ascendingWrites fun _ => s.cfg.colourBg) ++
      (List.range 65536).map (fun k =>
        (toIndex (u8 (rowfn s s.xoff (s8 (toCoord (BitVec.ofNat 16 k)).1)))
          (u8 (rowfn s s.yoff (s8 (toCoord (BitVec.ofNat 16 k)).2))), s.cfg.colourFg)) ∧
    ∀ i, readFb t i = some s.cfg.colourFg ∨ readFb t i = some s.cfg.colourBg

/-- R175: the image of DRAW.FN2 is the product of the images of the two row functions. -/
def Obligations.DrawFn2ImageIsProduct : Prop :=
  ∀ s t : State, exec .drawFn2 s = .next t → ∃ cells : Finset Index,
    (∀ i, i ∈ cells ↔ (∃ x, readFt2 s s.xoff x = (toCoord i).1) ∧ ∃ y, readFt2 s s.yoff y = (toCoord i).2) ∧
    (∀ i, readFb t i = some (if i ∈ cells then s.cfg.colourFg else s.cfg.colourBg)) ∧
    cells.card = (Set.range (readFt2 s s.xoff)).ncard * (Set.range (readFt2 s s.yoff)).ncard ∧
    1 ≤ cells.card ∧ cells.card ≤ 65536

/-- R177: after any painting command no cell is unwritten. -/
def Obligations.PaintingLeavesNoCellUnwritten : Prop :=
  ∀ (i : Instr) (s t : State) (k : Index), exec i s = .next t →
    ((∃ sel, i = .fill sel) ∨ i = .drawFn1 ∨ i = .drawFn2 ∨ i = .patStripe ∨ i = .patChecker) →
      ∃ c, readFb t k = some c

/-! The control registers (44_mode_fsm.md). -/

/-- R200. -/
def Obligations.NopChangesNothing : Prop :=
  EncodedAs 0xFFFFFFFF 0x00000000 (fun _ => .nop) ∧ ∀ s : State, exec .nop s = .next s

/-- R201. -/
def Obligations.ModeAdvAdvances : Prop :=
  EncodedAs 0xFFFFFFFF 0x40000000 (fun _ => .modeAdv) ∧
  (∀ s : State, ∃ t, exec .modeAdv s = .next t ∧ t = { s with mode := t.mode } ∧
    (Mode.code t.mode).toNat = ((Mode.code s.mode).toNat + 1) % 3) ∧
  ∀ s : State, runInstrs [.modeAdv, .modeAdv, .modeAdv] s = .next s

/-- R202, R203. -/
def Obligations.XoffStepsWrap : Prop :=
  EncodedAs 0xFFFFFFFF 0x41000000 (fun _ => .xoffInc) ∧ EncodedAs 0xFFFFFFFF 0x42000000 (fun _ => .xoffDec) ∧
  (∀ s : State, ∃ t, exec .xoffInc s = .next t ∧ t = { s with xoff := t.xoff } ∧
    t.xoff.toNat = (s.xoff.toNat + 1) % 256) ∧
  ∀ s : State, ∃ t, exec .xoffDec s = .next t ∧ t = { s with xoff := t.xoff } ∧
    (t.xoff.toNat : Int) = ((s.xoff.toNat : Int) - 1) % 256

/-- R204, R205. -/
def Obligations.YoffStepsWrap : Prop :=
  EncodedAs 0xFFFFFFFF 0x43000000 (fun _ => .yoffInc) ∧ EncodedAs 0xFFFFFFFF 0x44000000 (fun _ => .yoffDec) ∧
  (∀ s : State, ∃ t, exec .yoffInc s = .next t ∧ t = { s with yoff := t.yoff } ∧
    t.yoff.toNat = (s.yoff.toNat + 1) % 256) ∧
  ∀ s : State, ∃ t, exec .yoffDec s = .next t ∧ t = { s with yoff := t.yoff } ∧
    (t.yoff.toNat : Int) = ((s.yoff.toNat : Int) - 1) % 256

/-- R206. -/
def Obligations.ChkToggleFlips : Prop :=
  EncodedAs 0xFFFFFFFF 0x45000000 (fun _ => .chkToggle) ∧
  (∀ s : State, exec .chkToggle s = .next { s with chk := !s.chk }) ∧
  ∀ s : State, runInstrs [.chkToggle, .chkToggle] s = .next s

/-! FRAME (45_frame.md). -/

/-- R230: a frame performs the commands of its plan in order, then emits the strobe. R230 gives the scroll steps for the
default DIR_SIGN; that each direction has a sign of its own, on a fixed axis, is log 12. -/
def Obligations.FramePerformsItsPlan : Prop :=
  EncodedAs 0xFFFF0000 0x01000000 (fun cw => .frame (byte1 cw) (byte0 cw)) ∧
  (∀ (held pressed : Byte) (s : State), ∃ u, runInstrs (framePlan held pressed s) s = .next u ∧ u.res = s.res ∧
    exec (.frame held pressed) s = .next { u with strobe := true }) ∧
  decode 0x01008080 = .ok (.frame 0x80 0x80) ∧
  ∀ s : State, s.mode = .viewTwoArgFunction → s.cfg.btnReset = .face0 → s.cfg.btnReseed = .face1 →
    s.cfg.btnModifier = .face2 → s.cfg.btnAdvance = .face3 → framePlan 0x80 0x80 s = [.modeAdv, .drawFn1]

/-- R207, R210: MODE under FRAME; the scroll of a frame in a visualiser mode, with the default DIR_SIGN, and none in
TestPattern. -/
def Obligations.FrameAdvancesAndScrolls : Prop :=
  ∀ (held pressed : Byte) (s t : State), exec (.frame held pressed) s = .next t →
    t.mode = (if isSet pressed (.face s.cfg.btnAdvance) then nextMode s.mode else s.mode) ∧
    (t.mode ≠ .testPattern → s.cfg.dirSign = {} →
      t.xoff = s.xoff + scrollCount held pressed s .right - scrollCount held pressed s .left ∧
      t.yoff = s.yoff + scrollCount held pressed s .up - scrollCount held pressed s .down ∧ t.chk = s.chk) ∧
    (t.mode = .testPattern → t.xoff = s.xoff ∧ t.yoff = s.yoff)

/-- R211, R234: the toggles and the render of a frame in TestPattern; nothing but the direction edges, and the edge of
BTN_ADVANCE, has an effect on it. -/
def Obligations.FrameTogglesAndPaintsPattern : Prop :=
  ∀ (held pressed : Byte) (s : State), frameMode pressed s = .testPattern → ∃ t,
    exec (.frame held pressed) s = .next t ∧ t.chk = chkAfterEdges pressed s.chk ∧ t.xoff = s.xoff ∧ t.yoff = s.yoff ∧
    (∀ held' pressed' : Byte, (∀ d, isSet pressed' (.dir d) = isSet pressed (.dir d)) →
      isSet pressed' (.face s.cfg.btnAdvance) = isSet pressed (.face s.cfg.btnAdvance) →
        exec (.frame held' pressed') s = .next t) ∧
    ∀ k, readFb t k =
      some (paletteAt s.cfg (k.toNat + patternOffset s + if t.chk then k.toNat / 256 else 0))

/-- R232, R233: of the three branches of a visualiser frame exactly one runs: reset, then reseed, then draw. -/
def Obligations.FrameRunsOneBranch : Prop :=
  ∀ (held pressed : Byte) (s t : State), exec (.frame held pressed) s = .next t →
    frameMode pressed s ≠ .testPattern →
    (triggered held pressed s.cfg.btnReset s.cfg.trigReset = true →
      (∀ k, readFb t k = some s.cfg.colourReset) ∧ t.ft1 = s.ft1 ∧ t.ft2 = s.ft2 ∧ t.rng = s.rng) ∧
    (triggered held pressed s.cfg.btnReset s.cfg.trigReset = false →
      triggered held pressed s.cfg.btnReseed s.cfg.trigReseed = true →
      (∀ k, readFb t k = some s.cfg.colourReseed) ∧
      (frameMode pressed s = .viewTwoArgFunction →
        (∀ r c, readFt2 t r c = drawnByte (afterDraws (256 * r.toNat + c.toNat) s.rng)) ∧
        t.rng = afterDraws 65536 s.rng ∧ t.ft1 = s.ft1) ∧
      (frameMode pressed s = .visualizeOneArgFunction →
        (∀ a, readFt1 t a = drawnByte (afterDraws a.toNat s.rng)) ∧ t.rng = afterDraws 256 s.rng ∧ t.ft2 = s.ft2)) ∧
    (triggered held pressed s.cfg.btnReset s.cfg.trigReset = false →
      triggered held pressed s.cfg.btnReseed s.cfg.trigReseed = false →
      t.ft1 = s.ft1 ∧ t.ft2 = s.ft2 ∧ t.rng = s.rng ∧
      ∃ u, exec (if frameMode pressed s = .viewTwoArgFunction then .drawFn2 else .drawFn1)
        { s with xoff := t.xoff, yoff := t.yoff } = .next u ∧ t.fb = u.fb)

/-- R237: every frame writes every cell, and how many writes it issues. -/
def Obligations.FrameWritesEveryCell : Prop :=
  ∀ (held pressed : Byte) (s t : State), exec (.frame held pressed) s = .next t → ∃ ws,
    t.fbWrites = s.fbWrites ++ ws ∧ (∀ k : Index, ∃ w ∈ ws, w.1 = k) ∧ (∀ k, readFb t k ≠ none) ∧
    ws.length = if frameMode pressed s = .testPattern ∨
        triggered held pressed s.cfg.btnReset s.cfg.trigReset = true ∨
        triggered held pressed s.cfg.btnReseed s.cfg.trigReseed = true then 65536
      else if frameMode pressed s = .viewTwoArgFunction then 131072 else 65792

/-- R230, R251: what a frame leaves unchanged. -/
def Obligations.FrameLeavesRestUnchanged : Prop :=
  ∀ (held pressed : Byte) (s t : State), exec (.frame held pressed) s = .next t →
    t = { s with mode := t.mode, xoff := t.xoff, yoff := t.yoff, chk := t.chk, rng := t.rng, ft1 := t.ft1,
                 ft2 := t.ft2, fb := t.fb, fbWrites := t.fbWrites, strobe := t.strobe }

/-! The platform (60_exceptions.md section 5, 70_reset_and_hazards.md section 2). -/

/-- R260: the input latch. What happens while a command runs comes before its rotate. -/
def Obligations.LatchContract : Prop :=
  (∀ (b b' : Button) (s : State),
    isSet (hostEvent (.press b) s).latchNow b' = (decide (b' = b) || isSet s.latchNow b') ∧
    isSet (hostEvent (.press b) s).latchPrev b' = (!decide (b' = b) && isSet s.latchPrev b') ∧
    isSet (hostEvent (.release b) s).latchNow b' = (!decide (b' = b) && isSet s.latchNow b') ∧
    (hostEvent (.release b) s).latchPrev = s.latchPrev) ∧
  (∀ s : State, (rotateLatch s).latchPrev = s.latchNow ∧ (rotateLatch s).latchNow = s.latchNow) ∧
  (∀ (b : Button) (s : State), isSet (latchPressed s) b = (isSet s.latchNow b && !isSet s.latchPrev b)) ∧
  ∀ (during : List BusyEvent) (s : State), s.strobe = true →
    finish during s = { rotateLatch (busyEvents during s) with busy := false }

/-- R261, R235, R238: a frame of a sampled latch performs FRAME on the sample, and after its rotate no button reports
an edge; and no step without a press changes that. All of it assumes that the platform applies every strobe (R298,
log 14). -/
def Obligations.SampledFrameRotatesLatch : Prop :=
  (∀ (s : State) (during : List BusyEvent) (rest : List HostInput), cmdReady s = true →
    s.inputs = .frame during :: rest →
    (∃ t, exec (.frame s.latchNow (s.latchNow &&& ~~~s.latchPrev))
        { s with inputs := rest, busy := true, fbWrites := [], strobe := false } = .next t ∧
      step s = .next { rotateLatch (busyEvents during t) with busy := false }) ∧
    ∀ u, step s = .next u → u.latchPrev = u.latchNow ∧ ∀ b, isSet (latchPressed u) b = false) ∧
  ∀ s u : State, (∀ b, isSet (latchPressed s) b = false) → pressesNext s = false → step s = .next u →
    ∀ b, isSet (latchPressed u) b = false

/-- R56, R295, R296: what the host reads, and what a host write to the framebuffer does, between commands and during
one. How the model reads the spec here: a fresh free value for each open read (log 9), what a write during a command
leaves unspecified, the written cell included (log 10), and, its own choice, that a write between commands is kept
(log 21). -/
def Obligations.HostReadsAndWrites : Prop :=
  (∀ s : State, s.busy = false →
    hostEvent .readRes s = { s with hostData := s.res } ∧
    hostEvent .readStatus s = { s with hostData := statusWord s } ∧
    ∀ (i : Index) (c : Colour), readFb s i = some c → hostEvent (.readCell i) s = { s with hostData := c }) ∧
  (∀ (s : State) (i : Index), s.busy = true ∨ readFb s i = none →
    hostEvent (.readCell i) s = { s with hostData := Config.freeWord s.choices, choices := s.choices + 1 }) ∧
  (∀ s : State, s.busy = true →
    hostEvent .readRes s = { s with hostData := Config.freeWord s.choices, choices := s.choices + 1 } ∧
    hostEvent .readStatus s = { s with hostData := Config.freeWord s.choices, choices := s.choices + 1 }) ∧
  (∀ (s : State) (i : Index) (c : Colour), s.busy = false →
    let t := hostEvent (.writeCell i c) s
    t = { s with fb := t.fb } ∧ readFb t i = some c ∧ ∀ k, k ≠ i → readFb t k = readFb s k) ∧
  ∀ (s : State) (i : Index) (c : Colour), s.busy = true →
    let t := hostEvent (.writeCell i c) s
    t = { s with fb := t.fb } ∧
    ∀ k : Index, readFb t k = if k = i ∨ ∃ w ∈ s.fbWrites, w.1 = k then none else readFb s k

/-- R267, R269: no action of the host or of the input device but a command or a reset changes the core, between commands
or during one; a word presented while not ready does not either; and with nothing pending a step changes nothing. -/
def Obligations.HostActionsKeepCore : Prop :=
  (∀ (e : HostEvent) (s : State), coreRegisters (hostEvent e s) = coreRegisters s) ∧
  (∀ (es : List BusyEvent) (s : State), coreRegisters (busyEvents es s) = coreRegisters s) ∧
  (∀ (s t : State) (e : HostEvent) (rest : List HostInput), s.inputs = .host e :: rest → step s = .next t →
    coreRegisters t = coreRegisters s) ∧
  (∀ s t : State, cmdReady s = false → resetsNext s = false → step s = .next t →
    coreRegisters t = coreRegisters s) ∧
  ∀ s : State, s.inputs = [] → step s = .next s

/-! The assembler (30_encoding.md). -/

/-- R86: which operands assemble, and to which command. -/
def Obligations.AssemblerChecksRanges : Prop :=
  (∀ x y : Int, assemble (.xltC2I x y) =
    if -128 ≤ x ∧ x ≤ 127 ∧ -128 ≤ y ∧ y ≤ 127 then some [.xltC2I (u8 x) (u8 y)] else none) ∧
  (∀ n : Int, assemble (.xltI2C n) = if 0 ≤ n ∧ n ≤ 65535 then some [.xltI2C (BitVec.ofInt 16 n)] else none) ∧
  (∀ a : Int, assemble (.lut1Rd a) = if 0 ≤ a ∧ a ≤ 255 then some [.lut1Rd (u8 a)] else none) ∧
  (∀ r c : Int, assemble (.lut2Rd r c) =
    if 0 ≤ r ∧ r ≤ 255 ∧ 0 ≤ c ∧ c ≤ 255 then some [.lut2Rd (u8 r) (u8 c)] else none) ∧
  (∀ a v : Int, assemble (.lut1Wr a v) =
    if 0 ≤ a ∧ a ≤ 255 ∧ -128 ≤ v ∧ v ≤ 255 then some [.lut1Wr (u8 a) (u8 v)] else none) ∧
  (∀ r c v : Int, assemble (.lut2Wr r c v) =
    if 0 ≤ r ∧ r ≤ 255 ∧ 0 ≤ c ∧ c ≤ 255 ∧ -128 ≤ v ∧ v ≤ 255 then some [.lut2Wr (u8 r) (u8 c) (u8 v)] else none) ∧
  (∀ held pressed : List Button, assemble (.frame held pressed) =
    some [.frame (buttonVector held) (buttonVector pressed)]) ∧
  (∀ sel : ColourSel, assemble (.fill sel) = some [.fill sel]) ∧
  (∀ v : Int, -128 ≤ v → v ≤ 127 → s8 (u8 v) = v) ∧ (∀ v : Int, 0 ≤ v → v ≤ 255 → ((u8 v).toNat : Int) = v) ∧
  (∀ v : Int, -128 ≤ v → v < 0 → u8 v = u8 (v + 256)) ∧
  ∀ (bs : List Button) (b : Button), isSet (buttonVector bs) b = bs.contains b

/-- R87: what the pseudo-instructions do. -/
def Obligations.PseudoInstructionsDo : Prop :=
  assemble .clear = some [.fill .bg] ∧ assemble .pattern = none ∧
  (∀ (x : Int) (s : State), -128 ≤ x → x ≤ 127 → ∃ t,
    assemble (.eval1 x) = some [.lut1Rd (u8 x)] ∧ exec (.lut1Rd (u8 x)) s = .next t ∧ byte0 t.res = u8 (f1 s x)) ∧
  (∀ (x y : Int) (s : State), -128 ≤ x → x ≤ 127 → -128 ≤ y → y ≤ 127 → ∃ t,
    assemble (.eval2 x y) = some [.lut2Rd (u8 x) (u8 y)] ∧ exec (.lut2Rd (u8 x) (u8 y)) s = .next t ∧
    byte0 t.res = u8 (f2 s x y)) ∧
  (∀ (l : List Int) (s : State), l.length = 256 → (∀ v ∈ l, -128 ≤ v ∧ v ≤ 255) → ∃ is t,
    assemble (.lut1Load l) = some is ∧
    is = (List.range 256).map (fun k => .lut1Wr (BitVec.ofNat 8 k) (u8 (l.getD k 0))) ∧
    runInstrs is s = .next t ∧ t = { s with ft1 := t.ft1 } ∧ ∀ a : Byte, readFt1 t a = u8 (l.getD a.toNat 0)) ∧
  (∀ s : State, ∃ is t, assemble .lut1Ident = some is ∧
    assemble .lut1Ident = assemble (.lut1Load ((List.range 256).map Int.ofNat)) ∧
    runInstrs is s = .next t ∧ t = { s with ft1 := t.ft1 } ∧ ∀ a : Byte, readFt1 t a = a) ∧
  ∀ (n : Int) (s : State), -255 ≤ n → n ≤ 255 → ∃ is js,
    assemble (.scrollX n) = some is ∧ is = List.replicate n.natAbs (if 0 < n then .xoffInc else .xoffDec) ∧
    runInstrs is s = .next { s with xoff := s.xoff + u8 n } ∧
    assemble (.scrollY n) = some js ∧ js = List.replicate n.natAbs (if 0 < n then .yoffInc else .yoffDec) ∧
    runInstrs js s = .next { s with yoff := s.yoff + u8 n }
end

