-- ==== Sys2Proof/Laws/State.lean ====
section
/-! SUPPORT. One lemma per field per update of the state, each true by definition, so that no later proof unfolds a record
update. -/
namespace Sys2Proof.Machine

variable (s : State)

/-! What `RES <- v` leaves in each field. -/

@[simp] theorem setRes_mode (v : Word) : (setRes v s).mode = s.mode := rfl
@[simp] theorem setRes_xoff (v : Word) : (setRes v s).xoff = s.xoff := rfl
@[simp] theorem setRes_yoff (v : Word) : (setRes v s).yoff = s.yoff := rfl
@[simp] theorem setRes_chk (v : Word) : (setRes v s).chk = s.chk := rfl
@[simp] theorem setRes_rng (v : Word) : (setRes v s).rng = s.rng := rfl
@[simp] theorem setRes_ft1 (v : Word) : (setRes v s).ft1 = s.ft1 := rfl
@[simp] theorem setRes_ft2 (v : Word) : (setRes v s).ft2 = s.ft2 := rfl
@[simp] theorem setRes_res (v : Word) : (setRes v s).res = v := rfl
@[simp] theorem setRes_errIllegal (v : Word) : (setRes v s).errIllegal = s.errIllegal := rfl
@[simp] theorem setRes_errConfig (v : Word) : (setRes v s).errConfig = s.errConfig := rfl
@[simp] theorem setRes_busy (v : Word) : (setRes v s).busy = s.busy := rfl
@[simp] theorem setRes_cfg (v : Word) : (setRes v s).cfg = s.cfg := rfl
@[simp] theorem setRes_fbWrites (v : Word) : (setRes v s).fbWrites = s.fbWrites := rfl
@[simp] theorem setRes_strobe (v : Word) : (setRes v s).strobe = s.strobe := rfl
@[simp] theorem setRes_fb (v : Word) : (setRes v s).fb = s.fb := rfl
@[simp] theorem setRes_latchNow (v : Word) : (setRes v s).latchNow = s.latchNow := rfl
@[simp] theorem setRes_latchPrev (v : Word) : (setRes v s).latchPrev = s.latchPrev := rfl
@[simp] theorem setRes_inputs (v : Word) : (setRes v s).inputs = s.inputs := rfl
@[simp] theorem setRes_hostData (v : Word) : (setRes v s).hostData = s.hostData := rfl
@[simp] theorem setRes_choices (v : Word) : (setRes v s).choices = s.choices := rfl

/-! What `FT1[a] <- v` leaves in each field. -/

@[simp] theorem writeFt1_mode (a v : Byte) : (writeFt1 a v s).mode = s.mode := rfl
@[simp] theorem writeFt1_xoff (a v : Byte) : (writeFt1 a v s).xoff = s.xoff := rfl
@[simp] theorem writeFt1_yoff (a v : Byte) : (writeFt1 a v s).yoff = s.yoff := rfl
@[simp] theorem writeFt1_chk (a v : Byte) : (writeFt1 a v s).chk = s.chk := rfl
@[simp] theorem writeFt1_rng (a v : Byte) : (writeFt1 a v s).rng = s.rng := rfl
@[simp] theorem writeFt1_ft1 (a v : Byte) : (writeFt1 a v s).ft1 = writeTable s.ft1 a.toNat v := rfl
@[simp] theorem writeFt1_ft2 (a v : Byte) : (writeFt1 a v s).ft2 = s.ft2 := rfl
@[simp] theorem writeFt1_res (a v : Byte) : (writeFt1 a v s).res = s.res := rfl
@[simp] theorem writeFt1_errIllegal (a v : Byte) : (writeFt1 a v s).errIllegal = s.errIllegal := rfl
@[simp] theorem writeFt1_errConfig (a v : Byte) : (writeFt1 a v s).errConfig = s.errConfig := rfl
@[simp] theorem writeFt1_busy (a v : Byte) : (writeFt1 a v s).busy = s.busy := rfl
@[simp] theorem writeFt1_cfg (a v : Byte) : (writeFt1 a v s).cfg = s.cfg := rfl
@[simp] theorem writeFt1_fbWrites (a v : Byte) : (writeFt1 a v s).fbWrites = s.fbWrites := rfl
@[simp] theorem writeFt1_strobe (a v : Byte) : (writeFt1 a v s).strobe = s.strobe := rfl
@[simp] theorem writeFt1_fb (a v : Byte) : (writeFt1 a v s).fb = s.fb := rfl
@[simp] theorem writeFt1_latchNow (a v : Byte) : (writeFt1 a v s).latchNow = s.latchNow := rfl
@[simp] theorem writeFt1_latchPrev (a v : Byte) : (writeFt1 a v s).latchPrev = s.latchPrev := rfl
@[simp] theorem writeFt1_inputs (a v : Byte) : (writeFt1 a v s).inputs = s.inputs := rfl
@[simp] theorem writeFt1_hostData (a v : Byte) : (writeFt1 a v s).hostData = s.hostData := rfl
@[simp] theorem writeFt1_choices (a v : Byte) : (writeFt1 a v s).choices = s.choices := rfl

/-! What `FT2[r][c] <- v` leaves in each field. -/

@[simp] theorem writeFt2_mode (r c v : Byte) : (writeFt2 r c v s).mode = s.mode := rfl
@[simp] theorem writeFt2_xoff (r c v : Byte) : (writeFt2 r c v s).xoff = s.xoff := rfl
@[simp] theorem writeFt2_yoff (r c v : Byte) : (writeFt2 r c v s).yoff = s.yoff := rfl
@[simp] theorem writeFt2_chk (r c v : Byte) : (writeFt2 r c v s).chk = s.chk := rfl
@[simp] theorem writeFt2_rng (r c v : Byte) : (writeFt2 r c v s).rng = s.rng := rfl
@[simp] theorem writeFt2_ft1 (r c v : Byte) : (writeFt2 r c v s).ft1 = s.ft1 := rfl
@[simp] theorem writeFt2_ft2 (r c v : Byte) : (writeFt2 r c v s).ft2 = writeTable s.ft2 (ft2Address r c) v := rfl
@[simp] theorem writeFt2_res (r c v : Byte) : (writeFt2 r c v s).res = s.res := rfl
@[simp] theorem writeFt2_errIllegal (r c v : Byte) : (writeFt2 r c v s).errIllegal = s.errIllegal := rfl
@[simp] theorem writeFt2_errConfig (r c v : Byte) : (writeFt2 r c v s).errConfig = s.errConfig := rfl
@[simp] theorem writeFt2_busy (r c v : Byte) : (writeFt2 r c v s).busy = s.busy := rfl
@[simp] theorem writeFt2_cfg (r c v : Byte) : (writeFt2 r c v s).cfg = s.cfg := rfl
@[simp] theorem writeFt2_fbWrites (r c v : Byte) : (writeFt2 r c v s).fbWrites = s.fbWrites := rfl
@[simp] theorem writeFt2_strobe (r c v : Byte) : (writeFt2 r c v s).strobe = s.strobe := rfl
@[simp] theorem writeFt2_fb (r c v : Byte) : (writeFt2 r c v s).fb = s.fb := rfl
@[simp] theorem writeFt2_latchNow (r c v : Byte) : (writeFt2 r c v s).latchNow = s.latchNow := rfl
@[simp] theorem writeFt2_latchPrev (r c v : Byte) : (writeFt2 r c v s).latchPrev = s.latchPrev := rfl
@[simp] theorem writeFt2_inputs (r c v : Byte) : (writeFt2 r c v s).inputs = s.inputs := rfl
@[simp] theorem writeFt2_hostData (r c v : Byte) : (writeFt2 r c v s).hostData = s.hostData := rfl
@[simp] theorem writeFt2_choices (r c v : Byte) : (writeFt2 r c v s).choices = s.choices := rfl

/-! What the refill of FT1 leaves in each field. -/

@[simp] theorem refillFt1_mode : (refillFt1 s).mode = s.mode := rfl
@[simp] theorem refillFt1_xoff : (refillFt1 s).xoff = s.xoff := rfl
@[simp] theorem refillFt1_yoff : (refillFt1 s).yoff = s.yoff := rfl
@[simp] theorem refillFt1_chk : (refillFt1 s).chk = s.chk := rfl
@[simp] theorem refillFt1_rng : (refillFt1 s).rng = afterDraws ft1Size s.rng := rfl
@[simp] theorem refillFt1_ft1 : (refillFt1 s).ft1 = refillFrom ft1Size 0 s.ft1 s.rng := rfl
@[simp] theorem refillFt1_ft2 : (refillFt1 s).ft2 = s.ft2 := rfl
@[simp] theorem refillFt1_res : (refillFt1 s).res = s.res := rfl
@[simp] theorem refillFt1_errIllegal : (refillFt1 s).errIllegal = s.errIllegal := rfl
@[simp] theorem refillFt1_errConfig : (refillFt1 s).errConfig = s.errConfig := rfl
@[simp] theorem refillFt1_busy : (refillFt1 s).busy = s.busy := rfl
@[simp] theorem refillFt1_cfg : (refillFt1 s).cfg = s.cfg := rfl
@[simp] theorem refillFt1_fbWrites : (refillFt1 s).fbWrites = s.fbWrites := rfl
@[simp] theorem refillFt1_strobe : (refillFt1 s).strobe = s.strobe := rfl
@[simp] theorem refillFt1_fb : (refillFt1 s).fb = s.fb := rfl
@[simp] theorem refillFt1_latchNow : (refillFt1 s).latchNow = s.latchNow := rfl
@[simp] theorem refillFt1_latchPrev : (refillFt1 s).latchPrev = s.latchPrev := rfl
@[simp] theorem refillFt1_inputs : (refillFt1 s).inputs = s.inputs := rfl
@[simp] theorem refillFt1_hostData : (refillFt1 s).hostData = s.hostData := rfl
@[simp] theorem refillFt1_choices : (refillFt1 s).choices = s.choices := rfl

/-! What the refill of FT2 leaves in each field. -/

@[simp] theorem refillFt2_mode : (refillFt2 s).mode = s.mode := rfl
@[simp] theorem refillFt2_xoff : (refillFt2 s).xoff = s.xoff := rfl
@[simp] theorem refillFt2_yoff : (refillFt2 s).yoff = s.yoff := rfl
@[simp] theorem refillFt2_chk : (refillFt2 s).chk = s.chk := rfl
@[simp] theorem refillFt2_rng : (refillFt2 s).rng = afterRows rowCount s.rng := rfl
@[simp] theorem refillFt2_ft1 : (refillFt2 s).ft1 = s.ft1 := rfl
@[simp] theorem refillFt2_ft2 : (refillFt2 s).ft2 = refillRows rowCount 0 s.ft2 s.rng := rfl
@[simp] theorem refillFt2_res : (refillFt2 s).res = s.res := rfl
@[simp] theorem refillFt2_errIllegal : (refillFt2 s).errIllegal = s.errIllegal := rfl
@[simp] theorem refillFt2_errConfig : (refillFt2 s).errConfig = s.errConfig := rfl
@[simp] theorem refillFt2_busy : (refillFt2 s).busy = s.busy := rfl
@[simp] theorem refillFt2_cfg : (refillFt2 s).cfg = s.cfg := rfl
@[simp] theorem refillFt2_fbWrites : (refillFt2 s).fbWrites = s.fbWrites := rfl
@[simp] theorem refillFt2_strobe : (refillFt2 s).strobe = s.strobe := rfl
@[simp] theorem refillFt2_fb : (refillFt2 s).fb = s.fb := rfl
@[simp] theorem refillFt2_latchNow : (refillFt2 s).latchNow = s.latchNow := rfl
@[simp] theorem refillFt2_latchPrev : (refillFt2 s).latchPrev = s.latchPrev := rfl
@[simp] theorem refillFt2_inputs : (refillFt2 s).inputs = s.inputs := rfl
@[simp] theorem refillFt2_hostData : (refillFt2 s).hostData = s.hostData := rfl
@[simp] theorem refillFt2_choices : (refillFt2 s).choices = s.choices := rfl

/-! What issuing framebuffer writes leaves in each field. -/

@[simp] theorem issue_mode (ws : List FbWrite) : (issue ws s).mode = s.mode := rfl
@[simp] theorem issue_xoff (ws : List FbWrite) : (issue ws s).xoff = s.xoff := rfl
@[simp] theorem issue_yoff (ws : List FbWrite) : (issue ws s).yoff = s.yoff := rfl
@[simp] theorem issue_chk (ws : List FbWrite) : (issue ws s).chk = s.chk := rfl
@[simp] theorem issue_rng (ws : List FbWrite) : (issue ws s).rng = s.rng := rfl
@[simp] theorem issue_ft1 (ws : List FbWrite) : (issue ws s).ft1 = s.ft1 := rfl
@[simp] theorem issue_ft2 (ws : List FbWrite) : (issue ws s).ft2 = s.ft2 := rfl
@[simp] theorem issue_res (ws : List FbWrite) : (issue ws s).res = s.res := rfl
@[simp] theorem issue_errIllegal (ws : List FbWrite) : (issue ws s).errIllegal = s.errIllegal := rfl
@[simp] theorem issue_errConfig (ws : List FbWrite) : (issue ws s).errConfig = s.errConfig := rfl
@[simp] theorem issue_busy (ws : List FbWrite) : (issue ws s).busy = s.busy := rfl
@[simp] theorem issue_cfg (ws : List FbWrite) : (issue ws s).cfg = s.cfg := rfl
@[simp] theorem issue_fbWrites (ws : List FbWrite) : (issue ws s).fbWrites = s.fbWrites ++ ws := rfl
@[simp] theorem issue_strobe (ws : List FbWrite) : (issue ws s).strobe = s.strobe := rfl
@[simp] theorem issue_fb (ws : List FbWrite) : (issue ws s).fb = applyWrites s.fb ws := rfl
@[simp] theorem issue_latchNow (ws : List FbWrite) : (issue ws s).latchNow = s.latchNow := rfl
@[simp] theorem issue_latchPrev (ws : List FbWrite) : (issue ws s).latchPrev = s.latchPrev := rfl
@[simp] theorem issue_inputs (ws : List FbWrite) : (issue ws s).inputs = s.inputs := rfl
@[simp] theorem issue_hostData (ws : List FbWrite) : (issue ws s).hostData = s.hostData := rfl
@[simp] theorem issue_choices (ws : List FbWrite) : (issue ws s).choices = s.choices := rfl

/-! What `raise Illegal` leaves in each field. -/

@[simp] theorem raiseIllegal_mode : (raiseIllegal s).mode = s.mode := rfl
@[simp] theorem raiseIllegal_xoff : (raiseIllegal s).xoff = s.xoff := rfl
@[simp] theorem raiseIllegal_yoff : (raiseIllegal s).yoff = s.yoff := rfl
@[simp] theorem raiseIllegal_chk : (raiseIllegal s).chk = s.chk := rfl
@[simp] theorem raiseIllegal_rng : (raiseIllegal s).rng = s.rng := rfl
@[simp] theorem raiseIllegal_ft1 : (raiseIllegal s).ft1 = s.ft1 := rfl
@[simp] theorem raiseIllegal_ft2 : (raiseIllegal s).ft2 = s.ft2 := rfl
@[simp] theorem raiseIllegal_res : (raiseIllegal s).res = s.res := rfl
@[simp] theorem raiseIllegal_errIllegal : (raiseIllegal s).errIllegal = true := rfl
@[simp] theorem raiseIllegal_errConfig : (raiseIllegal s).errConfig = s.errConfig := rfl
@[simp] theorem raiseIllegal_busy : (raiseIllegal s).busy = s.busy := rfl
@[simp] theorem raiseIllegal_cfg : (raiseIllegal s).cfg = s.cfg := rfl
@[simp] theorem raiseIllegal_fbWrites : (raiseIllegal s).fbWrites = s.fbWrites := rfl
@[simp] theorem raiseIllegal_strobe : (raiseIllegal s).strobe = s.strobe := rfl
@[simp] theorem raiseIllegal_fb : (raiseIllegal s).fb = s.fb := rfl
@[simp] theorem raiseIllegal_latchNow : (raiseIllegal s).latchNow = s.latchNow := rfl
@[simp] theorem raiseIllegal_latchPrev : (raiseIllegal s).latchPrev = s.latchPrev := rfl
@[simp] theorem raiseIllegal_inputs : (raiseIllegal s).inputs = s.inputs := rfl
@[simp] theorem raiseIllegal_hostData : (raiseIllegal s).hostData = s.hostData := rfl
@[simp] theorem raiseIllegal_choices : (raiseIllegal s).choices = s.choices := rfl

/-! What `ROTATE_HISTORY` leaves in each field. -/

@[simp] theorem emitRotate_mode : (emitRotate s).mode = s.mode := rfl
@[simp] theorem emitRotate_xoff : (emitRotate s).xoff = s.xoff := rfl
@[simp] theorem emitRotate_yoff : (emitRotate s).yoff = s.yoff := rfl
@[simp] theorem emitRotate_chk : (emitRotate s).chk = s.chk := rfl
@[simp] theorem emitRotate_rng : (emitRotate s).rng = s.rng := rfl
@[simp] theorem emitRotate_ft1 : (emitRotate s).ft1 = s.ft1 := rfl
@[simp] theorem emitRotate_ft2 : (emitRotate s).ft2 = s.ft2 := rfl
@[simp] theorem emitRotate_res : (emitRotate s).res = s.res := rfl
@[simp] theorem emitRotate_errIllegal : (emitRotate s).errIllegal = s.errIllegal := rfl
@[simp] theorem emitRotate_errConfig : (emitRotate s).errConfig = s.errConfig := rfl
@[simp] theorem emitRotate_busy : (emitRotate s).busy = s.busy := rfl
@[simp] theorem emitRotate_cfg : (emitRotate s).cfg = s.cfg := rfl
@[simp] theorem emitRotate_fbWrites : (emitRotate s).fbWrites = s.fbWrites := rfl
@[simp] theorem emitRotate_strobe : (emitRotate s).strobe = true := rfl
@[simp] theorem emitRotate_fb : (emitRotate s).fb = s.fb := rfl
@[simp] theorem emitRotate_latchNow : (emitRotate s).latchNow = s.latchNow := rfl
@[simp] theorem emitRotate_latchPrev : (emitRotate s).latchPrev = s.latchPrev := rfl
@[simp] theorem emitRotate_inputs : (emitRotate s).inputs = s.inputs := rfl
@[simp] theorem emitRotate_hostData : (emitRotate s).hostData = s.hostData := rfl
@[simp] theorem emitRotate_choices : (emitRotate s).choices = s.choices := rfl

/-! What the mode advance leaves in each field. -/

@[simp] theorem advanceMode_mode : (advanceMode s).mode = nextMode s.mode := rfl
@[simp] theorem advanceMode_xoff : (advanceMode s).xoff = s.xoff := rfl
@[simp] theorem advanceMode_yoff : (advanceMode s).yoff = s.yoff := rfl
@[simp] theorem advanceMode_chk : (advanceMode s).chk = s.chk := rfl
@[simp] theorem advanceMode_rng : (advanceMode s).rng = s.rng := rfl
@[simp] theorem advanceMode_ft1 : (advanceMode s).ft1 = s.ft1 := rfl
@[simp] theorem advanceMode_ft2 : (advanceMode s).ft2 = s.ft2 := rfl
@[simp] theorem advanceMode_res : (advanceMode s).res = s.res := rfl
@[simp] theorem advanceMode_errIllegal : (advanceMode s).errIllegal = s.errIllegal := rfl
@[simp] theorem advanceMode_errConfig : (advanceMode s).errConfig = s.errConfig := rfl
@[simp] theorem advanceMode_busy : (advanceMode s).busy = s.busy := rfl
@[simp] theorem advanceMode_cfg : (advanceMode s).cfg = s.cfg := rfl
@[simp] theorem advanceMode_fbWrites : (advanceMode s).fbWrites = s.fbWrites := rfl
@[simp] theorem advanceMode_strobe : (advanceMode s).strobe = s.strobe := rfl
@[simp] theorem advanceMode_fb : (advanceMode s).fb = s.fb := rfl
@[simp] theorem advanceMode_latchNow : (advanceMode s).latchNow = s.latchNow := rfl
@[simp] theorem advanceMode_latchPrev : (advanceMode s).latchPrev = s.latchPrev := rfl
@[simp] theorem advanceMode_inputs : (advanceMode s).inputs = s.inputs := rfl
@[simp] theorem advanceMode_hostData : (advanceMode s).hostData = s.hostData := rfl
@[simp] theorem advanceMode_choices : (advanceMode s).choices = s.choices := rfl

/-! What the increment of XOFF leaves in each field. -/

@[simp] theorem incXoff_mode : (incXoff s).mode = s.mode := rfl
@[simp] theorem incXoff_xoff : (incXoff s).xoff = s.xoff + 1 := rfl
@[simp] theorem incXoff_yoff : (incXoff s).yoff = s.yoff := rfl
@[simp] theorem incXoff_chk : (incXoff s).chk = s.chk := rfl
@[simp] theorem incXoff_rng : (incXoff s).rng = s.rng := rfl
@[simp] theorem incXoff_ft1 : (incXoff s).ft1 = s.ft1 := rfl
@[simp] theorem incXoff_ft2 : (incXoff s).ft2 = s.ft2 := rfl
@[simp] theorem incXoff_res : (incXoff s).res = s.res := rfl
@[simp] theorem incXoff_errIllegal : (incXoff s).errIllegal = s.errIllegal := rfl
@[simp] theorem incXoff_errConfig : (incXoff s).errConfig = s.errConfig := rfl
@[simp] theorem incXoff_busy : (incXoff s).busy = s.busy := rfl
@[simp] theorem incXoff_cfg : (incXoff s).cfg = s.cfg := rfl
@[simp] theorem incXoff_fbWrites : (incXoff s).fbWrites = s.fbWrites := rfl
@[simp] theorem incXoff_strobe : (incXoff s).strobe = s.strobe := rfl
@[simp] theorem incXoff_fb : (incXoff s).fb = s.fb := rfl
@[simp] theorem incXoff_latchNow : (incXoff s).latchNow = s.latchNow := rfl
@[simp] theorem incXoff_latchPrev : (incXoff s).latchPrev = s.latchPrev := rfl
@[simp] theorem incXoff_inputs : (incXoff s).inputs = s.inputs := rfl
@[simp] theorem incXoff_hostData : (incXoff s).hostData = s.hostData := rfl
@[simp] theorem incXoff_choices : (incXoff s).choices = s.choices := rfl

/-! What the decrement of XOFF leaves in each field. -/

@[simp] theorem decXoff_mode : (decXoff s).mode = s.mode := rfl
@[simp] theorem decXoff_xoff : (decXoff s).xoff = s.xoff - 1 := rfl
@[simp] theorem decXoff_yoff : (decXoff s).yoff = s.yoff := rfl
@[simp] theorem decXoff_chk : (decXoff s).chk = s.chk := rfl
@[simp] theorem decXoff_rng : (decXoff s).rng = s.rng := rfl
@[simp] theorem decXoff_ft1 : (decXoff s).ft1 = s.ft1 := rfl
@[simp] theorem decXoff_ft2 : (decXoff s).ft2 = s.ft2 := rfl
@[simp] theorem decXoff_res : (decXoff s).res = s.res := rfl
@[simp] theorem decXoff_errIllegal : (decXoff s).errIllegal = s.errIllegal := rfl
@[simp] theorem decXoff_errConfig : (decXoff s).errConfig = s.errConfig := rfl
@[simp] theorem decXoff_busy : (decXoff s).busy = s.busy := rfl
@[simp] theorem decXoff_cfg : (decXoff s).cfg = s.cfg := rfl
@[simp] theorem decXoff_fbWrites : (decXoff s).fbWrites = s.fbWrites := rfl
@[simp] theorem decXoff_strobe : (decXoff s).strobe = s.strobe := rfl
@[simp] theorem decXoff_fb : (decXoff s).fb = s.fb := rfl
@[simp] theorem decXoff_latchNow : (decXoff s).latchNow = s.latchNow := rfl
@[simp] theorem decXoff_latchPrev : (decXoff s).latchPrev = s.latchPrev := rfl
@[simp] theorem decXoff_inputs : (decXoff s).inputs = s.inputs := rfl
@[simp] theorem decXoff_hostData : (decXoff s).hostData = s.hostData := rfl
@[simp] theorem decXoff_choices : (decXoff s).choices = s.choices := rfl

/-! What the increment of YOFF leaves in each field. -/

@[simp] theorem incYoff_mode : (incYoff s).mode = s.mode := rfl
@[simp] theorem incYoff_xoff : (incYoff s).xoff = s.xoff := rfl
@[simp] theorem incYoff_yoff : (incYoff s).yoff = s.yoff + 1 := rfl
@[simp] theorem incYoff_chk : (incYoff s).chk = s.chk := rfl
@[simp] theorem incYoff_rng : (incYoff s).rng = s.rng := rfl
@[simp] theorem incYoff_ft1 : (incYoff s).ft1 = s.ft1 := rfl
@[simp] theorem incYoff_ft2 : (incYoff s).ft2 = s.ft2 := rfl
@[simp] theorem incYoff_res : (incYoff s).res = s.res := rfl
@[simp] theorem incYoff_errIllegal : (incYoff s).errIllegal = s.errIllegal := rfl
@[simp] theorem incYoff_errConfig : (incYoff s).errConfig = s.errConfig := rfl
@[simp] theorem incYoff_busy : (incYoff s).busy = s.busy := rfl
@[simp] theorem incYoff_cfg : (incYoff s).cfg = s.cfg := rfl
@[simp] theorem incYoff_fbWrites : (incYoff s).fbWrites = s.fbWrites := rfl
@[simp] theorem incYoff_strobe : (incYoff s).strobe = s.strobe := rfl
@[simp] theorem incYoff_fb : (incYoff s).fb = s.fb := rfl
@[simp] theorem incYoff_latchNow : (incYoff s).latchNow = s.latchNow := rfl
@[simp] theorem incYoff_latchPrev : (incYoff s).latchPrev = s.latchPrev := rfl
@[simp] theorem incYoff_inputs : (incYoff s).inputs = s.inputs := rfl
@[simp] theorem incYoff_hostData : (incYoff s).hostData = s.hostData := rfl
@[simp] theorem incYoff_choices : (incYoff s).choices = s.choices := rfl

/-! What the decrement of YOFF leaves in each field. -/

@[simp] theorem decYoff_mode : (decYoff s).mode = s.mode := rfl
@[simp] theorem decYoff_xoff : (decYoff s).xoff = s.xoff := rfl
@[simp] theorem decYoff_yoff : (decYoff s).yoff = s.yoff - 1 := rfl
@[simp] theorem decYoff_chk : (decYoff s).chk = s.chk := rfl
@[simp] theorem decYoff_rng : (decYoff s).rng = s.rng := rfl
@[simp] theorem decYoff_ft1 : (decYoff s).ft1 = s.ft1 := rfl
@[simp] theorem decYoff_ft2 : (decYoff s).ft2 = s.ft2 := rfl
@[simp] theorem decYoff_res : (decYoff s).res = s.res := rfl
@[simp] theorem decYoff_errIllegal : (decYoff s).errIllegal = s.errIllegal := rfl
@[simp] theorem decYoff_errConfig : (decYoff s).errConfig = s.errConfig := rfl
@[simp] theorem decYoff_busy : (decYoff s).busy = s.busy := rfl
@[simp] theorem decYoff_cfg : (decYoff s).cfg = s.cfg := rfl
@[simp] theorem decYoff_fbWrites : (decYoff s).fbWrites = s.fbWrites := rfl
@[simp] theorem decYoff_strobe : (decYoff s).strobe = s.strobe := rfl
@[simp] theorem decYoff_fb : (decYoff s).fb = s.fb := rfl
@[simp] theorem decYoff_latchNow : (decYoff s).latchNow = s.latchNow := rfl
@[simp] theorem decYoff_latchPrev : (decYoff s).latchPrev = s.latchPrev := rfl
@[simp] theorem decYoff_inputs : (decYoff s).inputs = s.inputs := rfl
@[simp] theorem decYoff_hostData : (decYoff s).hostData = s.hostData := rfl
@[simp] theorem decYoff_choices : (decYoff s).choices = s.choices := rfl

/-! What the toggle of CHK leaves in each field. -/

@[simp] theorem toggleChk_mode : (toggleChk s).mode = s.mode := rfl
@[simp] theorem toggleChk_xoff : (toggleChk s).xoff = s.xoff := rfl
@[simp] theorem toggleChk_yoff : (toggleChk s).yoff = s.yoff := rfl
@[simp] theorem toggleChk_chk : (toggleChk s).chk = !s.chk := rfl
@[simp] theorem toggleChk_rng : (toggleChk s).rng = s.rng := rfl
@[simp] theorem toggleChk_ft1 : (toggleChk s).ft1 = s.ft1 := rfl
@[simp] theorem toggleChk_ft2 : (toggleChk s).ft2 = s.ft2 := rfl
@[simp] theorem toggleChk_res : (toggleChk s).res = s.res := rfl
@[simp] theorem toggleChk_errIllegal : (toggleChk s).errIllegal = s.errIllegal := rfl
@[simp] theorem toggleChk_errConfig : (toggleChk s).errConfig = s.errConfig := rfl
@[simp] theorem toggleChk_busy : (toggleChk s).busy = s.busy := rfl
@[simp] theorem toggleChk_cfg : (toggleChk s).cfg = s.cfg := rfl
@[simp] theorem toggleChk_fbWrites : (toggleChk s).fbWrites = s.fbWrites := rfl
@[simp] theorem toggleChk_strobe : (toggleChk s).strobe = s.strobe := rfl
@[simp] theorem toggleChk_fb : (toggleChk s).fb = s.fb := rfl
@[simp] theorem toggleChk_latchNow : (toggleChk s).latchNow = s.latchNow := rfl
@[simp] theorem toggleChk_latchPrev : (toggleChk s).latchPrev = s.latchPrev := rfl
@[simp] theorem toggleChk_inputs : (toggleChk s).inputs = s.inputs := rfl
@[simp] theorem toggleChk_hostData : (toggleChk s).hostData = s.hostData := rfl
@[simp] theorem toggleChk_choices : (toggleChk s).choices = s.choices := rfl

/-! What a press event leaves in each field. -/

@[simp] theorem pressButton_mode (b : Button) : (pressButton b s).mode = s.mode := rfl
@[simp] theorem pressButton_xoff (b : Button) : (pressButton b s).xoff = s.xoff := rfl
@[simp] theorem pressButton_yoff (b : Button) : (pressButton b s).yoff = s.yoff := rfl
@[simp] theorem pressButton_chk (b : Button) : (pressButton b s).chk = s.chk := rfl
@[simp] theorem pressButton_rng (b : Button) : (pressButton b s).rng = s.rng := rfl
@[simp] theorem pressButton_ft1 (b : Button) : (pressButton b s).ft1 = s.ft1 := rfl
@[simp] theorem pressButton_ft2 (b : Button) : (pressButton b s).ft2 = s.ft2 := rfl
@[simp] theorem pressButton_res (b : Button) : (pressButton b s).res = s.res := rfl
@[simp] theorem pressButton_errIllegal (b : Button) : (pressButton b s).errIllegal = s.errIllegal := rfl
@[simp] theorem pressButton_errConfig (b : Button) : (pressButton b s).errConfig = s.errConfig := rfl
@[simp] theorem pressButton_busy (b : Button) : (pressButton b s).busy = s.busy := rfl
@[simp] theorem pressButton_cfg (b : Button) : (pressButton b s).cfg = s.cfg := rfl
@[simp] theorem pressButton_fbWrites (b : Button) : (pressButton b s).fbWrites = s.fbWrites := rfl
@[simp] theorem pressButton_strobe (b : Button) : (pressButton b s).strobe = s.strobe := rfl
@[simp] theorem pressButton_fb (b : Button) : (pressButton b s).fb = s.fb := rfl
@[simp] theorem pressButton_latchNow (b : Button) : (pressButton b s).latchNow = setButton s.latchNow b := rfl
@[simp] theorem pressButton_latchPrev (b : Button) : (pressButton b s).latchPrev = clearButton s.latchPrev b := rfl
@[simp] theorem pressButton_inputs (b : Button) : (pressButton b s).inputs = s.inputs := rfl
@[simp] theorem pressButton_hostData (b : Button) : (pressButton b s).hostData = s.hostData := rfl
@[simp] theorem pressButton_choices (b : Button) : (pressButton b s).choices = s.choices := rfl

/-! What a release event leaves in each field. -/

@[simp] theorem releaseButton_mode (b : Button) : (releaseButton b s).mode = s.mode := rfl
@[simp] theorem releaseButton_xoff (b : Button) : (releaseButton b s).xoff = s.xoff := rfl
@[simp] theorem releaseButton_yoff (b : Button) : (releaseButton b s).yoff = s.yoff := rfl
@[simp] theorem releaseButton_chk (b : Button) : (releaseButton b s).chk = s.chk := rfl
@[simp] theorem releaseButton_rng (b : Button) : (releaseButton b s).rng = s.rng := rfl
@[simp] theorem releaseButton_ft1 (b : Button) : (releaseButton b s).ft1 = s.ft1 := rfl
@[simp] theorem releaseButton_ft2 (b : Button) : (releaseButton b s).ft2 = s.ft2 := rfl
@[simp] theorem releaseButton_res (b : Button) : (releaseButton b s).res = s.res := rfl
@[simp] theorem releaseButton_errIllegal (b : Button) : (releaseButton b s).errIllegal = s.errIllegal := rfl
@[simp] theorem releaseButton_errConfig (b : Button) : (releaseButton b s).errConfig = s.errConfig := rfl
@[simp] theorem releaseButton_busy (b : Button) : (releaseButton b s).busy = s.busy := rfl
@[simp] theorem releaseButton_cfg (b : Button) : (releaseButton b s).cfg = s.cfg := rfl
@[simp] theorem releaseButton_fbWrites (b : Button) : (releaseButton b s).fbWrites = s.fbWrites := rfl
@[simp] theorem releaseButton_strobe (b : Button) : (releaseButton b s).strobe = s.strobe := rfl
@[simp] theorem releaseButton_fb (b : Button) : (releaseButton b s).fb = s.fb := rfl
@[simp] theorem releaseButton_latchNow (b : Button) : (releaseButton b s).latchNow = clearButton s.latchNow b := rfl
@[simp] theorem releaseButton_latchPrev (b : Button) : (releaseButton b s).latchPrev = s.latchPrev := rfl
@[simp] theorem releaseButton_inputs (b : Button) : (releaseButton b s).inputs = s.inputs := rfl
@[simp] theorem releaseButton_hostData (b : Button) : (releaseButton b s).hostData = s.hostData := rfl
@[simp] theorem releaseButton_choices (b : Button) : (releaseButton b s).choices = s.choices := rfl

/-! What the rotation of the latch leaves in each field. -/

@[simp] theorem rotateLatch_mode : (rotateLatch s).mode = s.mode := rfl
@[simp] theorem rotateLatch_xoff : (rotateLatch s).xoff = s.xoff := rfl
@[simp] theorem rotateLatch_yoff : (rotateLatch s).yoff = s.yoff := rfl
@[simp] theorem rotateLatch_chk : (rotateLatch s).chk = s.chk := rfl
@[simp] theorem rotateLatch_rng : (rotateLatch s).rng = s.rng := rfl
@[simp] theorem rotateLatch_ft1 : (rotateLatch s).ft1 = s.ft1 := rfl
@[simp] theorem rotateLatch_ft2 : (rotateLatch s).ft2 = s.ft2 := rfl
@[simp] theorem rotateLatch_res : (rotateLatch s).res = s.res := rfl
@[simp] theorem rotateLatch_errIllegal : (rotateLatch s).errIllegal = s.errIllegal := rfl
@[simp] theorem rotateLatch_errConfig : (rotateLatch s).errConfig = s.errConfig := rfl
@[simp] theorem rotateLatch_busy : (rotateLatch s).busy = s.busy := rfl
@[simp] theorem rotateLatch_cfg : (rotateLatch s).cfg = s.cfg := rfl
@[simp] theorem rotateLatch_fbWrites : (rotateLatch s).fbWrites = s.fbWrites := rfl
@[simp] theorem rotateLatch_strobe : (rotateLatch s).strobe = s.strobe := rfl
@[simp] theorem rotateLatch_fb : (rotateLatch s).fb = s.fb := rfl
@[simp] theorem rotateLatch_latchNow : (rotateLatch s).latchNow = s.latchNow := rfl
@[simp] theorem rotateLatch_latchPrev : (rotateLatch s).latchPrev = s.latchNow := rfl
@[simp] theorem rotateLatch_inputs : (rotateLatch s).inputs = s.inputs := rfl
@[simp] theorem rotateLatch_hostData : (rotateLatch s).hostData = s.hostData := rfl
@[simp] theorem rotateLatch_choices : (rotateLatch s).choices = s.choices := rfl

/-! What a read of any value leaves in each field. -/

@[simp] theorem freeRead_mode : (freeRead s).mode = s.mode := rfl
@[simp] theorem freeRead_xoff : (freeRead s).xoff = s.xoff := rfl
@[simp] theorem freeRead_yoff : (freeRead s).yoff = s.yoff := rfl
@[simp] theorem freeRead_chk : (freeRead s).chk = s.chk := rfl
@[simp] theorem freeRead_rng : (freeRead s).rng = s.rng := rfl
@[simp] theorem freeRead_ft1 : (freeRead s).ft1 = s.ft1 := rfl
@[simp] theorem freeRead_ft2 : (freeRead s).ft2 = s.ft2 := rfl
@[simp] theorem freeRead_res : (freeRead s).res = s.res := rfl
@[simp] theorem freeRead_errIllegal : (freeRead s).errIllegal = s.errIllegal := rfl
@[simp] theorem freeRead_errConfig : (freeRead s).errConfig = s.errConfig := rfl
@[simp] theorem freeRead_busy : (freeRead s).busy = s.busy := rfl
@[simp] theorem freeRead_cfg : (freeRead s).cfg = s.cfg := rfl
@[simp] theorem freeRead_fbWrites : (freeRead s).fbWrites = s.fbWrites := rfl
@[simp] theorem freeRead_strobe : (freeRead s).strobe = s.strobe := rfl
@[simp] theorem freeRead_fb : (freeRead s).fb = s.fb := rfl
@[simp] theorem freeRead_latchNow : (freeRead s).latchNow = s.latchNow := rfl
@[simp] theorem freeRead_latchPrev : (freeRead s).latchPrev = s.latchPrev := rfl
@[simp] theorem freeRead_inputs : (freeRead s).inputs = s.inputs := rfl
@[simp] theorem freeRead_hostData : (freeRead s).hostData = Config.freeWord s.choices := rfl
@[simp] theorem freeRead_choices : (freeRead s).choices = s.choices + 1 := rfl

/-! What a read of a defined value leaves in each field. -/

@[simp] theorem giveHost_mode (v : Word) : (giveHost v s).mode = s.mode := rfl
@[simp] theorem giveHost_xoff (v : Word) : (giveHost v s).xoff = s.xoff := rfl
@[simp] theorem giveHost_yoff (v : Word) : (giveHost v s).yoff = s.yoff := rfl
@[simp] theorem giveHost_chk (v : Word) : (giveHost v s).chk = s.chk := rfl
@[simp] theorem giveHost_rng (v : Word) : (giveHost v s).rng = s.rng := rfl
@[simp] theorem giveHost_ft1 (v : Word) : (giveHost v s).ft1 = s.ft1 := rfl
@[simp] theorem giveHost_ft2 (v : Word) : (giveHost v s).ft2 = s.ft2 := rfl
@[simp] theorem giveHost_res (v : Word) : (giveHost v s).res = s.res := rfl
@[simp] theorem giveHost_errIllegal (v : Word) : (giveHost v s).errIllegal = s.errIllegal := rfl
@[simp] theorem giveHost_errConfig (v : Word) : (giveHost v s).errConfig = s.errConfig := rfl
@[simp] theorem giveHost_busy (v : Word) : (giveHost v s).busy = s.busy := rfl
@[simp] theorem giveHost_cfg (v : Word) : (giveHost v s).cfg = s.cfg := rfl
@[simp] theorem giveHost_fbWrites (v : Word) : (giveHost v s).fbWrites = s.fbWrites := rfl
@[simp] theorem giveHost_strobe (v : Word) : (giveHost v s).strobe = s.strobe := rfl
@[simp] theorem giveHost_fb (v : Word) : (giveHost v s).fb = s.fb := rfl
@[simp] theorem giveHost_latchNow (v : Word) : (giveHost v s).latchNow = s.latchNow := rfl
@[simp] theorem giveHost_latchPrev (v : Word) : (giveHost v s).latchPrev = s.latchPrev := rfl
@[simp] theorem giveHost_inputs (v : Word) : (giveHost v s).inputs = s.inputs := rfl
@[simp] theorem giveHost_hostData (v : Word) : (giveHost v s).hostData = v := rfl
@[simp] theorem giveHost_choices (v : Word) : (giveHost v s).choices = s.choices := rfl

/-! What the reset values of the registers leaves in each field. -/

@[simp] theorem resetRegisters_mode (req : ResetRequest) : (resetRegisters req s).mode = .viewTwoArgFunction := rfl
@[simp] theorem resetRegisters_xoff (req : ResetRequest) : (resetRegisters req s).xoff = 0 := rfl
@[simp] theorem resetRegisters_yoff (req : ResetRequest) : (resetRegisters req s).yoff = 0 := rfl
@[simp] theorem resetRegisters_chk (req : ResetRequest) : (resetRegisters req s).chk = false := rfl
@[simp] theorem resetRegisters_rng (req : ResetRequest) : (resetRegisters req s).rng = Config.rngInit req.seed := rfl
@[simp] theorem resetRegisters_ft1 (req : ResetRequest) : (resetRegisters req s).ft1 = s.ft1 := rfl
@[simp] theorem resetRegisters_ft2 (req : ResetRequest) : (resetRegisters req s).ft2 = s.ft2 := rfl
@[simp] theorem resetRegisters_res (req : ResetRequest) : (resetRegisters req s).res = 0 := rfl
@[simp] theorem resetRegisters_errIllegal (req : ResetRequest) : (resetRegisters req s).errIllegal = false := rfl
@[simp] theorem resetRegisters_errConfig (req : ResetRequest) : (resetRegisters req s).errConfig = s.errConfig := rfl
@[simp] theorem resetRegisters_busy (req : ResetRequest) : (resetRegisters req s).busy = false := rfl
@[simp] theorem resetRegisters_cfg (req : ResetRequest) : (resetRegisters req s).cfg = samplePort req.port := rfl
@[simp] theorem resetRegisters_fbWrites (req : ResetRequest) : (resetRegisters req s).fbWrites = [] := rfl
@[simp] theorem resetRegisters_strobe (req : ResetRequest) : (resetRegisters req s).strobe = false := rfl
@[simp] theorem resetRegisters_fb (req : ResetRequest) : (resetRegisters req s).fb = s.fb := rfl
@[simp] theorem resetRegisters_latchNow (req : ResetRequest) : (resetRegisters req s).latchNow = s.latchNow := rfl
@[simp] theorem resetRegisters_latchPrev (req : ResetRequest) : (resetRegisters req s).latchPrev = s.latchPrev := rfl
@[simp] theorem resetRegisters_inputs (req : ResetRequest) : (resetRegisters req s).inputs = s.inputs := rfl
@[simp] theorem resetRegisters_hostData (req : ResetRequest) : (resetRegisters req s).hostData = s.hostData := rfl
@[simp] theorem resetRegisters_choices (req : ResetRequest) : (resetRegisters req s).choices = s.choices := rfl

/-! What free table contents leaves in each field. -/

@[simp] theorem freeTables_mode : (freeTables s).mode = s.mode := rfl
@[simp] theorem freeTables_xoff : (freeTables s).xoff = s.xoff := rfl
@[simp] theorem freeTables_yoff : (freeTables s).yoff = s.yoff := rfl
@[simp] theorem freeTables_chk : (freeTables s).chk = s.chk := rfl
@[simp] theorem freeTables_rng : (freeTables s).rng = s.rng := rfl
@[simp] theorem freeTables_ft1 : (freeTables s).ft1 = freeTableFrom s.choices 0 ft1Size 0 s.ft1 := rfl
@[simp] theorem freeTables_ft2 : (freeTables s).ft2 = freeRowsFrom s.choices ft1Size rowCount 0 s.ft2 := rfl
@[simp] theorem freeTables_res : (freeTables s).res = s.res := rfl
@[simp] theorem freeTables_errIllegal : (freeTables s).errIllegal = s.errIllegal := rfl
@[simp] theorem freeTables_errConfig : (freeTables s).errConfig = s.errConfig := rfl
@[simp] theorem freeTables_busy : (freeTables s).busy = s.busy := rfl
@[simp] theorem freeTables_cfg : (freeTables s).cfg = s.cfg := rfl
@[simp] theorem freeTables_fbWrites : (freeTables s).fbWrites = s.fbWrites := rfl
@[simp] theorem freeTables_strobe : (freeTables s).strobe = s.strobe := rfl
@[simp] theorem freeTables_fb : (freeTables s).fb = s.fb := rfl
@[simp] theorem freeTables_latchNow : (freeTables s).latchNow = s.latchNow := rfl
@[simp] theorem freeTables_latchPrev : (freeTables s).latchPrev = s.latchPrev := rfl
@[simp] theorem freeTables_inputs : (freeTables s).inputs = s.inputs := rfl
@[simp] theorem freeTables_hostData : (freeTables s).hostData = s.hostData := rfl
@[simp] theorem freeTables_choices : (freeTables s).choices = s.choices + 1 := rfl

/-! What the write of ERR_CONFIG leaves in each field. -/

@[simp] theorem setErrConfig_mode (b : Bool) : (setErrConfig b s).mode = s.mode := rfl
@[simp] theorem setErrConfig_xoff (b : Bool) : (setErrConfig b s).xoff = s.xoff := rfl
@[simp] theorem setErrConfig_yoff (b : Bool) : (setErrConfig b s).yoff = s.yoff := rfl
@[simp] theorem setErrConfig_chk (b : Bool) : (setErrConfig b s).chk = s.chk := rfl
@[simp] theorem setErrConfig_rng (b : Bool) : (setErrConfig b s).rng = s.rng := rfl
@[simp] theorem setErrConfig_ft1 (b : Bool) : (setErrConfig b s).ft1 = s.ft1 := rfl
@[simp] theorem setErrConfig_ft2 (b : Bool) : (setErrConfig b s).ft2 = s.ft2 := rfl
@[simp] theorem setErrConfig_res (b : Bool) : (setErrConfig b s).res = s.res := rfl
@[simp] theorem setErrConfig_errIllegal (b : Bool) : (setErrConfig b s).errIllegal = s.errIllegal := rfl
@[simp] theorem setErrConfig_errConfig (b : Bool) : (setErrConfig b s).errConfig = b := rfl
@[simp] theorem setErrConfig_busy (b : Bool) : (setErrConfig b s).busy = s.busy := rfl
@[simp] theorem setErrConfig_cfg (b : Bool) : (setErrConfig b s).cfg = s.cfg := rfl
@[simp] theorem setErrConfig_fbWrites (b : Bool) : (setErrConfig b s).fbWrites = s.fbWrites := rfl
@[simp] theorem setErrConfig_strobe (b : Bool) : (setErrConfig b s).strobe = s.strobe := rfl
@[simp] theorem setErrConfig_fb (b : Bool) : (setErrConfig b s).fb = s.fb := rfl
@[simp] theorem setErrConfig_latchNow (b : Bool) : (setErrConfig b s).latchNow = s.latchNow := rfl
@[simp] theorem setErrConfig_latchPrev (b : Bool) : (setErrConfig b s).latchPrev = s.latchPrev := rfl
@[simp] theorem setErrConfig_inputs (b : Bool) : (setErrConfig b s).inputs = s.inputs := rfl
@[simp] theorem setErrConfig_hostData (b : Bool) : (setErrConfig b s).hostData = s.hostData := rfl
@[simp] theorem setErrConfig_choices (b : Bool) : (setErrConfig b s).choices = s.choices := rfl

/-! What forgetting the cells leaves in each field. -/

@[simp] theorem forgetCells_mode : (forgetCells s).mode = s.mode := rfl
@[simp] theorem forgetCells_xoff : (forgetCells s).xoff = s.xoff := rfl
@[simp] theorem forgetCells_yoff : (forgetCells s).yoff = s.yoff := rfl
@[simp] theorem forgetCells_chk : (forgetCells s).chk = s.chk := rfl
@[simp] theorem forgetCells_rng : (forgetCells s).rng = s.rng := rfl
@[simp] theorem forgetCells_ft1 : (forgetCells s).ft1 = s.ft1 := rfl
@[simp] theorem forgetCells_ft2 : (forgetCells s).ft2 = s.ft2 := rfl
@[simp] theorem forgetCells_res : (forgetCells s).res = s.res := rfl
@[simp] theorem forgetCells_errIllegal : (forgetCells s).errIllegal = s.errIllegal := rfl
@[simp] theorem forgetCells_errConfig : (forgetCells s).errConfig = s.errConfig := rfl
@[simp] theorem forgetCells_busy : (forgetCells s).busy = s.busy := rfl
@[simp] theorem forgetCells_cfg : (forgetCells s).cfg = s.cfg := rfl
@[simp] theorem forgetCells_fbWrites : (forgetCells s).fbWrites = s.fbWrites := rfl
@[simp] theorem forgetCells_strobe : (forgetCells s).strobe = s.strobe := rfl
@[simp] theorem forgetCells_fb : (forgetCells s).fb = [] := rfl
@[simp] theorem forgetCells_latchNow : (forgetCells s).latchNow = s.latchNow := rfl
@[simp] theorem forgetCells_latchPrev : (forgetCells s).latchPrev = s.latchPrev := rfl
@[simp] theorem forgetCells_inputs : (forgetCells s).inputs = s.inputs := rfl
@[simp] theorem forgetCells_hostData : (forgetCells s).hostData = s.hostData := rfl
@[simp] theorem forgetCells_choices : (forgetCells s).choices = s.choices := rfl

/-! What the acceptance of a command leaves in each field. -/

@[simp] theorem accept_mode : (accept s).mode = s.mode := rfl
@[simp] theorem accept_xoff : (accept s).xoff = s.xoff := rfl
@[simp] theorem accept_yoff : (accept s).yoff = s.yoff := rfl
@[simp] theorem accept_chk : (accept s).chk = s.chk := rfl
@[simp] theorem accept_rng : (accept s).rng = s.rng := rfl
@[simp] theorem accept_ft1 : (accept s).ft1 = s.ft1 := rfl
@[simp] theorem accept_ft2 : (accept s).ft2 = s.ft2 := rfl
@[simp] theorem accept_res : (accept s).res = s.res := rfl
@[simp] theorem accept_errIllegal : (accept s).errIllegal = s.errIllegal := rfl
@[simp] theorem accept_errConfig : (accept s).errConfig = s.errConfig := rfl
@[simp] theorem accept_busy : (accept s).busy = true := rfl
@[simp] theorem accept_cfg : (accept s).cfg = s.cfg := rfl
@[simp] theorem accept_fbWrites : (accept s).fbWrites = [] := rfl
@[simp] theorem accept_strobe : (accept s).strobe = false := rfl
@[simp] theorem accept_fb : (accept s).fb = s.fb := rfl
@[simp] theorem accept_latchNow : (accept s).latchNow = s.latchNow := rfl
@[simp] theorem accept_latchPrev : (accept s).latchPrev = s.latchPrev := rfl
@[simp] theorem accept_inputs : (accept s).inputs = s.inputs := rfl
@[simp] theorem accept_hostData : (accept s).hostData = s.hostData := rfl
@[simp] theorem accept_choices : (accept s).choices = s.choices := rfl

/-! What a command or a reset under way has left in each field. -/

@[simp] theorem underWay_mode (ws : List FbWrite) : (underWay ws s).mode = s.mode := rfl
@[simp] theorem underWay_xoff (ws : List FbWrite) : (underWay ws s).xoff = s.xoff := rfl
@[simp] theorem underWay_yoff (ws : List FbWrite) : (underWay ws s).yoff = s.yoff := rfl
@[simp] theorem underWay_chk (ws : List FbWrite) : (underWay ws s).chk = s.chk := rfl
@[simp] theorem underWay_rng (ws : List FbWrite) : (underWay ws s).rng = s.rng := rfl
@[simp] theorem underWay_ft1 (ws : List FbWrite) : (underWay ws s).ft1 = s.ft1 := rfl
@[simp] theorem underWay_ft2 (ws : List FbWrite) : (underWay ws s).ft2 = s.ft2 := rfl
@[simp] theorem underWay_res (ws : List FbWrite) : (underWay ws s).res = s.res := rfl
@[simp] theorem underWay_errIllegal (ws : List FbWrite) : (underWay ws s).errIllegal = s.errIllegal := rfl
@[simp] theorem underWay_errConfig (ws : List FbWrite) : (underWay ws s).errConfig = s.errConfig := rfl
@[simp] theorem underWay_busy (ws : List FbWrite) : (underWay ws s).busy = true := rfl
@[simp] theorem underWay_cfg (ws : List FbWrite) : (underWay ws s).cfg = s.cfg := rfl
@[simp] theorem underWay_fbWrites (ws : List FbWrite) : (underWay ws s).fbWrites = ws := rfl
@[simp] theorem underWay_strobe (ws : List FbWrite) : (underWay ws s).strobe = s.strobe := rfl
@[simp] theorem underWay_fb (ws : List FbWrite) : (underWay ws s).fb = applyWrites s.fb ws := rfl
@[simp] theorem underWay_latchNow (ws : List FbWrite) : (underWay ws s).latchNow = s.latchNow := rfl
@[simp] theorem underWay_latchPrev (ws : List FbWrite) : (underWay ws s).latchPrev = s.latchPrev := rfl
@[simp] theorem underWay_inputs (ws : List FbWrite) : (underWay ws s).inputs = s.inputs := rfl
@[simp] theorem underWay_hostData (ws : List FbWrite) : (underWay ws s).hostData = s.hostData := rfl
@[simp] theorem underWay_choices (ws : List FbWrite) : (underWay ws s).choices = s.choices := rfl

/-! What the completion of a command leaves in each field. -/

@[simp] theorem complete_mode : (complete s).mode = s.mode := rfl
@[simp] theorem complete_xoff : (complete s).xoff = s.xoff := rfl
@[simp] theorem complete_yoff : (complete s).yoff = s.yoff := rfl
@[simp] theorem complete_chk : (complete s).chk = s.chk := rfl
@[simp] theorem complete_rng : (complete s).rng = s.rng := rfl
@[simp] theorem complete_ft1 : (complete s).ft1 = s.ft1 := rfl
@[simp] theorem complete_ft2 : (complete s).ft2 = s.ft2 := rfl
@[simp] theorem complete_res : (complete s).res = s.res := rfl
@[simp] theorem complete_errIllegal : (complete s).errIllegal = s.errIllegal := rfl
@[simp] theorem complete_errConfig : (complete s).errConfig = s.errConfig := rfl
@[simp] theorem complete_busy : (complete s).busy = false := rfl
@[simp] theorem complete_cfg : (complete s).cfg = s.cfg := rfl
@[simp] theorem complete_fbWrites : (complete s).fbWrites = s.fbWrites := rfl
@[simp] theorem complete_strobe : (complete s).strobe = s.strobe := rfl
@[simp] theorem complete_fb : (complete s).fb = s.fb := rfl
@[simp] theorem complete_latchNow : (complete s).latchNow = s.latchNow := rfl
@[simp] theorem complete_latchPrev : (complete s).latchPrev = s.latchPrev := rfl
@[simp] theorem complete_inputs : (complete s).inputs = s.inputs := rfl
@[simp] theorem complete_hostData : (complete s).hostData = s.hostData := rfl
@[simp] theorem complete_choices : (complete s).choices = s.choices := rfl

/-! What presenting a word first leaves in each field. -/

@[simp] theorem presentFirst_mode (cw : Word) : (presentFirst cw s).mode = s.mode := rfl
@[simp] theorem presentFirst_xoff (cw : Word) : (presentFirst cw s).xoff = s.xoff := rfl
@[simp] theorem presentFirst_yoff (cw : Word) : (presentFirst cw s).yoff = s.yoff := rfl
@[simp] theorem presentFirst_chk (cw : Word) : (presentFirst cw s).chk = s.chk := rfl
@[simp] theorem presentFirst_rng (cw : Word) : (presentFirst cw s).rng = s.rng := rfl
@[simp] theorem presentFirst_ft1 (cw : Word) : (presentFirst cw s).ft1 = s.ft1 := rfl
@[simp] theorem presentFirst_ft2 (cw : Word) : (presentFirst cw s).ft2 = s.ft2 := rfl
@[simp] theorem presentFirst_res (cw : Word) : (presentFirst cw s).res = s.res := rfl
@[simp] theorem presentFirst_errIllegal (cw : Word) : (presentFirst cw s).errIllegal = s.errIllegal := rfl
@[simp] theorem presentFirst_errConfig (cw : Word) : (presentFirst cw s).errConfig = s.errConfig := rfl
@[simp] theorem presentFirst_busy (cw : Word) : (presentFirst cw s).busy = s.busy := rfl
@[simp] theorem presentFirst_cfg (cw : Word) : (presentFirst cw s).cfg = s.cfg := rfl
@[simp] theorem presentFirst_fbWrites (cw : Word) : (presentFirst cw s).fbWrites = s.fbWrites := rfl
@[simp] theorem presentFirst_strobe (cw : Word) : (presentFirst cw s).strobe = s.strobe := rfl
@[simp] theorem presentFirst_fb (cw : Word) : (presentFirst cw s).fb = s.fb := rfl
@[simp] theorem presentFirst_latchNow (cw : Word) : (presentFirst cw s).latchNow = s.latchNow := rfl
@[simp] theorem presentFirst_latchPrev (cw : Word) : (presentFirst cw s).latchPrev = s.latchPrev := rfl
@[simp] theorem presentFirst_inputs (cw : Word) : (presentFirst cw s).inputs = .command cw [] :: s.inputs := rfl
@[simp] theorem presentFirst_hostData (cw : Word) : (presentFirst cw s).hostData = s.hostData := rfl
@[simp] theorem presentFirst_choices (cw : Word) : (presentFirst cw s).choices = s.choices := rfl

/-! What taking an input leaves in each field. -/

@[simp] theorem dropInput_mode (rest : List HostInput) : (dropInput rest s).mode = s.mode := rfl
@[simp] theorem dropInput_xoff (rest : List HostInput) : (dropInput rest s).xoff = s.xoff := rfl
@[simp] theorem dropInput_yoff (rest : List HostInput) : (dropInput rest s).yoff = s.yoff := rfl
@[simp] theorem dropInput_chk (rest : List HostInput) : (dropInput rest s).chk = s.chk := rfl
@[simp] theorem dropInput_rng (rest : List HostInput) : (dropInput rest s).rng = s.rng := rfl
@[simp] theorem dropInput_ft1 (rest : List HostInput) : (dropInput rest s).ft1 = s.ft1 := rfl
@[simp] theorem dropInput_ft2 (rest : List HostInput) : (dropInput rest s).ft2 = s.ft2 := rfl
@[simp] theorem dropInput_res (rest : List HostInput) : (dropInput rest s).res = s.res := rfl
@[simp] theorem dropInput_errIllegal (rest : List HostInput) : (dropInput rest s).errIllegal = s.errIllegal := rfl
@[simp] theorem dropInput_errConfig (rest : List HostInput) : (dropInput rest s).errConfig = s.errConfig := rfl
@[simp] theorem dropInput_busy (rest : List HostInput) : (dropInput rest s).busy = s.busy := rfl
@[simp] theorem dropInput_cfg (rest : List HostInput) : (dropInput rest s).cfg = s.cfg := rfl
@[simp] theorem dropInput_fbWrites (rest : List HostInput) : (dropInput rest s).fbWrites = s.fbWrites := rfl
@[simp] theorem dropInput_strobe (rest : List HostInput) : (dropInput rest s).strobe = s.strobe := rfl
@[simp] theorem dropInput_fb (rest : List HostInput) : (dropInput rest s).fb = s.fb := rfl
@[simp] theorem dropInput_latchNow (rest : List HostInput) : (dropInput rest s).latchNow = s.latchNow := rfl
@[simp] theorem dropInput_latchPrev (rest : List HostInput) : (dropInput rest s).latchPrev = s.latchPrev := rfl
@[simp] theorem dropInput_inputs (rest : List HostInput) : (dropInput rest s).inputs = rest := rfl
@[simp] theorem dropInput_hostData (rest : List HostInput) : (dropInput rest s).hostData = s.hostData := rfl
@[simp] theorem dropInput_choices (rest : List HostInput) : (dropInput rest s).choices = s.choices := rfl

end Sys2Proof.Machine
end

