-- ==== Sys2Proof/Laws/Exec.lean ====
section
/-! SUPPORT. What a command can do to the state: one lemma an operation, and one for `exec`. -/
namespace Sys2Proof.Machine

/-- The state a command leaves. -/
def effect : Instr → State → State
  | .nop, s => s
  | .frame held pressed, s => runFrame held pressed s
  | .xltC2I x y, s => setRes ((toIndex x y).setWidth 32) s
  | .xltI2C idx, s => setRes (0#16 ++ (toCoord idx).1 ++ (toCoord idx).2) s
  | .lut1Rd a, s => setRes ((readFt1 s a).setWidth 32) s
  | .lut2Rd r c, s => setRes ((readFt2 s r c).setWidth 32) s
  | .lut1Wr a v, s => writeFt1 a v s
  | .lut2Wr r c v, s => writeFt2 r c v s
  | .rand1, s => refillFt1 s
  | .rand2, s => refillFt2 s
  | .fill sel, s => paintSolid sel s
  | .patStripe, s => paintStripe s
  | .patChecker, s => paintChecker s
  | .drawFn1, s => plot1 s
  | .drawFn2, s => plot2 s
  | .modeAdv, s => advanceMode s
  | .xoffInc, s => incXoff s
  | .xoffDec, s => decXoff s
  | .yoffInc, s => incYoff s
  | .yoffDec, s => decYoff s
  | .chkToggle, s => toggleChk s

/-- `exec` answers a next state, on every command and in every state. -/
theorem exec_eq_effect (i : Instr) (s : State) : exec i s = .next (effect i s) := by
  cases i <;> rfl

theorem exec_next_iff (i : Instr) (s t : State) : exec i s = .next t ↔ t = effect i s := by
  rw [exec_eq_effect]
  exact ⟨fun h => by cases h; rfl, fun h => h ▸ rfl⟩

/-- What no command changes: the error bits, BUSY, the configuration, the latch and the outside world's side. -/
structure KeepsRest (s t : State) : Prop where
  errIllegal : t.errIllegal = s.errIllegal
  errConfig : t.errConfig = s.errConfig
  busy : t.busy = s.busy
  cfg : t.cfg = s.cfg
  latchNow : t.latchNow = s.latchNow
  latchPrev : t.latchPrev = s.latchPrev
  inputs : t.inputs = s.inputs
  hostData : t.hostData = s.hostData
  choices : t.choices = s.choices

theorem KeepsRest.refl (s : State) : KeepsRest s s := ⟨rfl, rfl, rfl, rfl, rfl, rfl, rfl, rfl, rfl⟩

theorem KeepsRest.trans {s t u : State} (h : KeepsRest s t) (h' : KeepsRest t u) : KeepsRest s u :=
  ⟨h'.1.trans h.1, h'.2.trans h.2, h'.3.trans h.3, h'.4.trans h.4, h'.5.trans h.5, h'.6.trans h.6, h'.7.trans h.7,
    h'.8.trans h.8, h'.9.trans h.9⟩

/-! The paints: each issues one write list. -/

theorem paintSolid_eq (sel : ColourSel) (s : State) :
    paintSolid sel s = issue (solidWrites (selectColour s.cfg sel)) s := rfl

theorem paintStripe_eq (s : State) : paintStripe s = issue (stripeWrites s) s := rfl

theorem paintChecker_eq (s : State) : paintChecker s = issue (checkerWrites s) s := rfl

theorem plot1_eq (s : State) : plot1 s = issue (solidWrites s.cfg.colourBg ++ plot1Writes s) s := rfl

theorem plot2_eq (s : State) : plot2 s = issue (solidWrites s.cfg.colourBg ++ plot2Writes s) s := rfl

theorem keepsRest_issue (ws : List FbWrite) (s : State) : KeepsRest s (issue ws s) :=
  ⟨rfl, rfl, rfl, rfl, rfl, rfl, rfl, rfl, rfl⟩

/-- A scroll step changes XOFF or YOFF only. -/
theorem scrollStep_eq (d : Direction) (s : State) :
    scrollStep d s = { s with xoff := (scrollStep d s).xoff, yoff := (scrollStep d s).yoff } := by
  cases d <;> simp only [scrollStep] <;> split <;> rfl

/-- The scroll updates change XOFF and YOFF only. -/
theorem frameScroll_eq (held pressed : Byte) (s : State) :
    frameScroll held pressed s =
      { s with xoff := (frameScroll held pressed s).xoff, yoff := (frameScroll held pressed s).yoff } := by
  unfold frameScroll
  generalize scrollSet held pressed s = v
  have key : ∀ (ds : List Direction) (t : State),
      t = { s with xoff := t.xoff, yoff := t.yoff } →
        ds.foldl (fun t d => if isSet v (.dir d) then scrollStep d t else t) t =
          { s with xoff := (ds.foldl (fun t d => if isSet v (.dir d) then scrollStep d t else t) t).xoff,
                   yoff := (ds.foldl (fun t d => if isSet v (.dir d) then scrollStep d t else t) t).yoff } := by
    intro ds
    induction ds with
    | nil => intro t ht; exact ht
    | cons d ds ih =>
      intro t ht
      rw [List.foldl_cons]
      refine ih _ ?_
      split
      · rw [scrollStep_eq d t, ht]
      · exact ht
  exact key _ s rfl

/-- The toggles change CHK only. -/
theorem frameToggle_eq (pressed : Byte) (s : State) :
    frameToggle pressed s = { s with chk := (frameToggle pressed s).chk } := by
  unfold frameToggle
  have key : ∀ (ds : List Direction) (t : State), t = { s with chk := t.chk } →
      ds.foldl (fun t d => if isSet pressed (.dir d) then toggleChk t else t) t =
        { s with chk := (ds.foldl (fun t d => if isSet pressed (.dir d) then toggleChk t else t) t).chk } := by
    intro ds
    induction ds with
    | nil => intro t ht; exact ht
    | cons d ds ih =>
      intro t ht
      rw [List.foldl_cons]
      refine ih _ ?_
      split
      · rw [ht]; rfl
      · exact ht
  exact key _ s rfl

/-- The mode advance of a frame changes MODE only. -/
theorem frameAdvance_eq (pressed : Byte) (s : State) :
    frameAdvance pressed s = { s with mode := (frameAdvance pressed s).mode } := by
  unfold frameAdvance
  split <;> rfl

theorem keepsRest_frameScroll (held pressed : Byte) (s : State) : KeepsRest s (frameScroll held pressed s) := by
  rw [frameScroll_eq]
  exact ⟨rfl, rfl, rfl, rfl, rfl, rfl, rfl, rfl, rfl⟩

theorem keepsRest_frameToggle (pressed : Byte) (s : State) : KeepsRest s (frameToggle pressed s) := by
  rw [frameToggle_eq]
  exact ⟨rfl, rfl, rfl, rfl, rfl, rfl, rfl, rfl, rfl⟩

theorem keepsRest_frameAdvance (pressed : Byte) (s : State) : KeepsRest s (frameAdvance pressed s) := by
  rw [frameAdvance_eq]
  exact ⟨rfl, rfl, rfl, rfl, rfl, rfl, rfl, rfl, rfl⟩

theorem keepsRest_emitRotate (s : State) : KeepsRest s (emitRotate s) := 
  ⟨emitRotate_errIllegal s, emitRotate_errConfig s, emitRotate_busy s, emitRotate_cfg s, emitRotate_latchNow s, emitRotate_latchPrev s, emitRotate_inputs s, emitRotate_hostData s, emitRotate_choices s⟩

theorem keepsRest_refillFt1 (s : State) : KeepsRest s (refillFt1 s) := 
  ⟨refillFt1_errIllegal s, refillFt1_errConfig s, refillFt1_busy s, refillFt1_cfg s, refillFt1_latchNow s, refillFt1_latchPrev s, refillFt1_inputs s, refillFt1_hostData s, refillFt1_choices s⟩

theorem keepsRest_refillFt2 (s : State) : KeepsRest s (refillFt2 s) := 
  ⟨refillFt2_errIllegal s, refillFt2_errConfig s, refillFt2_busy s, refillFt2_cfg s, refillFt2_latchNow s, refillFt2_latchPrev s, refillFt2_inputs s, refillFt2_hostData s, refillFt2_choices s⟩

theorem keepsRest_reseedActive (s : State) : KeepsRest s (reseedActive s) := by
  unfold reseedActive
  split
  · exact keepsRest_refillFt2 s
  · exact keepsRest_refillFt1 s
  · exact keepsRest_refillFt1 s

theorem keepsRest_drawActive (s : State) : KeepsRest s (drawActive s) := by
  unfold drawActive
  split <;> exact keepsRest_issue _ _

theorem keepsRest_frameBranch (held pressed : Byte) (s : State) : KeepsRest s (frameBranch held pressed s) := by
  unfold frameBranch
  split
  · exact keepsRest_issue _ _
  · split
    · exact (keepsRest_reseedActive s).trans (keepsRest_issue _ _)
    · exact keepsRest_drawActive s

theorem keepsRest_framePattern (s : State) : KeepsRest s (framePattern s) := by
  unfold framePattern
  split <;> exact keepsRest_issue _ _

theorem keepsRest_frameDispatch (held pressed : Byte) (s : State) : KeepsRest s (frameDispatch held pressed s) := by
  unfold frameDispatch
  split
  · exact (keepsRest_frameScroll held pressed s).trans (keepsRest_frameBranch held pressed _)
  · exact (keepsRest_frameScroll held pressed s).trans (keepsRest_frameBranch held pressed _)
  · exact (keepsRest_frameToggle pressed s).trans (keepsRest_framePattern _)

theorem keepsRest_runFrame (held pressed : Byte) (s : State) : KeepsRest s (runFrame held pressed s) :=
  ((keepsRest_frameAdvance pressed s).trans (keepsRest_frameDispatch held pressed (frameAdvance pressed s))).trans
    (keepsRest_emitRotate _)

/-- No command changes the error bits, BUSY, the configuration, the latch or the outside world's side. -/
theorem keepsRest_effect (i : Instr) (s : State) : KeepsRest s (effect i s) := by
  cases i with
  | frame held pressed => rw [effect]; exact keepsRest_runFrame held pressed s
  | fill sel => rw [effect, paintSolid_eq]; exact keepsRest_issue _ s
  | patStripe => rw [effect, paintStripe_eq]; exact keepsRest_issue _ s
  | patChecker => rw [effect, paintChecker_eq]; exact keepsRest_issue _ s
  | drawFn1 => rw [effect, plot1_eq]; exact keepsRest_issue _ s
  | drawFn2 => rw [effect, plot2_eq]; exact keepsRest_issue _ s
  | rand1 => rw [effect]; exact keepsRest_refillFt1 s
  | rand2 => rw [effect]; exact keepsRest_refillFt2 s
  | _ => rw [effect]; exact ⟨rfl, rfl, rfl, rfl, rfl, rfl, rfl, rfl, rfl⟩

end Sys2Proof.Machine
end

