-- ==== Sys2Proof/Laws/Mem.lean ====
section
/-! SUPPORT. Laws of the memories: a read after a write, the canonical form and its uniqueness, write lists. -/
namespace Sys2Proof.Machine

variable {α : Type}

@[simp] theorem lookup_nil (a : Nat) : lookup ([] : List (Nat × α)) a = none := rfl

theorem lookup_cons (b : Nat) (w : α) (m : List (Nat × α)) (a : Nat) :
    lookup ((b, w) :: m) a = if a = b then some w else lookup m a := rfl

@[simp] theorem lookup_insertAt_same (m : List (Nat × α)) (a : Nat) (v : α) :
    lookup (insertAt m a v) a = some v := by
  induction m with
  | nil => simp [insertAt, lookup]
  | cons p m ih =>
    obtain ⟨b, w⟩ := p
    simp only [insertAt]
    split
    · simp [lookup]
    · split
      · simp [lookup]
      · simp [lookup, *]

theorem lookup_insertAt_other (m : List (Nat × α)) {a a' : Nat} (v : α) (h : a' ≠ a) :
    lookup (insertAt m a v) a' = lookup m a' := by
  induction m with
  | nil => simp [insertAt, lookup, h]
  | cons p m ih =>
    obtain ⟨b, w⟩ := p
    simp only [insertAt]
    split
    · simp [lookup, h]
    · split
      · rename_i hb
        subst hb
        simp [lookup, h]
      · simp [lookup, ih]

theorem lookup_filter (p : Nat → Bool) (m : List (Nat × α)) (a : Nat) :
    lookup (m.filter fun q => p q.1) a = if p a then lookup m a else none := by
  induction m with
  | nil => simp
  | cons q m ih =>
    obtain ⟨b, w⟩ := q
    by_cases hb : p b = true
    · by_cases hab : a = b
      · subst hab; simp [hb, lookup]
      · simp [hb, lookup, hab, ih]
    · by_cases hab : a = b
      · subst hab; simp [hb, ih]
      · simp [hb, lookup, hab, ih]

@[simp] theorem lookup_eraseAt_same (m : List (Nat × α)) (a : Nat) : lookup (eraseAt m a) a = none := by
  simpa [eraseAt] using lookup_filter (fun b => b != a) m a

theorem lookup_eraseAt_other (m : List (Nat × α)) {a a' : Nat} (h : a' ≠ a) :
    lookup (eraseAt m a) a' = lookup m a' := by
  simpa [eraseAt, h] using lookup_filter (fun b => b != a) m a'

/-- A table entry reads as the value written to it. -/
@[simp] theorem readTable_writeTable_same (m : Table) (a : Nat) (v : Byte) :
    readTable (writeTable m a v) a = v := by
  unfold readTable writeTable
  split
  · rename_i h; simp [h]
  · simp

/-- A write leaves every other table entry alone. -/
theorem readTable_writeTable_other (m : Table) {a a' : Nat} (v : Byte) (h : a' ≠ a) :
    readTable (writeTable m a v) a' = readTable m a' := by
  unfold readTable writeTable
  split
  · rw [lookup_eraseAt_other m h]
  · rw [lookup_insertAt_other m v h]

theorem readTable_writeTable (m : Table) (a a' : Nat) (v : Byte) :
    readTable (writeTable m a v) a' = if a' = a then v else readTable m a' := by
  split
  · rename_i h; simp [h]
  · rename_i h; exact readTable_writeTable_other m v h

/-! The canonical form. -/

theorem sortedBelow_iff (size : Nat) (m : List (Nat × α)) :
    sortedBelow size m = true ↔ (m.Pairwise fun p q => p.1 < q.1) ∧ ∀ p ∈ m, p.1 < size := by
  simp [sortedBelow]

@[simp] theorem sortedBelow_nil (size : Nat) : sortedBelow size ([] : List (Nat × α)) = true := rfl

theorem mem_insertAt {m : List (Nat × α)} {a : Nat} {v : α} {p : Nat × α} (h : p ∈ insertAt m a v) :
    p = (a, v) ∨ p ∈ m := by
  induction m with
  | nil => simpa [insertAt] using h
  | cons q m ih =>
    obtain ⟨b, w⟩ := q
    simp only [insertAt] at h
    split at h
    · simpa using h
    · split at h
      · rcases List.mem_cons.1 h with h | h
        · exact .inl h
        · exact .inr (List.mem_cons_of_mem _ h)
      · rcases List.mem_cons.1 h with h | h
        · exact .inr (h ▸ List.mem_cons_self)
        · exact (ih h).imp id (List.mem_cons_of_mem _)

theorem pairwise_insertAt {m : List (Nat × α)} (a : Nat) (v : α)
    (h : m.Pairwise fun p q => p.1 < q.1) : (insertAt m a v).Pairwise fun p q => p.1 < q.1 := by
  induction m with
  | nil => simp [insertAt]
  | cons q m ih =>
    obtain ⟨b, w⟩ := q
    obtain ⟨hq, hm⟩ := List.pairwise_cons.1 h
    simp only [insertAt]
    split
    · rename_i hab
      refine List.pairwise_cons.2 ⟨fun p hp => ?_, h⟩
      rcases List.mem_cons.1 hp with rfl | hp
      · exact hab
      · exact Nat.lt_trans hab (hq p hp)
    · split
      · rename_i hab
        subst hab
        exact List.pairwise_cons.2 ⟨hq, hm⟩
      · rename_i h1 h2
        refine List.pairwise_cons.2 ⟨fun p hp => ?_, ih hm⟩
        rcases mem_insertAt hp with rfl | hp
        · show b < a
          omega
        · exact hq p hp

theorem sortedBelow_insertAt {size : Nat} {m : List (Nat × α)} {a : Nat} (v : α)
    (h : sortedBelow size m = true) (ha : a < size) : sortedBelow size (insertAt m a v) = true := by
  rw [sortedBelow_iff] at h ⊢
  refine ⟨pairwise_insertAt a v h.1, fun p hp => ?_⟩
  rcases mem_insertAt hp with rfl | hp
  · exact ha
  · exact h.2 p hp

theorem sortedBelow_filter {size : Nat} {m : List (Nat × α)} (p : Nat × α → Bool)
    (h : sortedBelow size m = true) : sortedBelow size (m.filter p) = true := by
  rw [sortedBelow_iff] at h ⊢
  exact ⟨h.1.filter p, fun q hq => h.2 q (List.mem_of_mem_filter hq)⟩

theorem tableWf_iff (size : Nat) (m : Table) :
    tableWf size m = true ↔ sortedBelow size m = true ∧ ∀ p ∈ m, p.2 ≠ unlistedByte := by
  simp [tableWf]

@[simp] theorem tableWf_nil (size : Nat) : tableWf size [] = true := rfl

/-- Writing a table entry keeps the canonical form. -/
theorem tableWf_writeTable {size : Nat} {m : Table} {a : Nat} (v : Byte)
    (h : tableWf size m = true) (ha : a < size) : tableWf size (writeTable m a v) = true := by
  rw [tableWf_iff] at h ⊢
  unfold writeTable
  split
  · exact ⟨sortedBelow_filter _ h.1, fun p hp => h.2 p (List.mem_of_mem_filter hp)⟩
  · rename_i hv
    refine ⟨sortedBelow_insertAt v h.1 ha, fun p hp => ?_⟩
    rcases mem_insertAt hp with rfl | hp
    · exact hv
    · exact h.2 p hp

theorem index_lt_cellCount (i : Index) : i.toNat < cellCount := i.isLt

@[simp] theorem framebufferWf_nil : framebufferWf [] = true := rfl

/-- Writing a cell keeps the canonical form. -/
theorem framebufferWf_writeCell {m : Framebuffer} (w : FbWrite) (h : framebufferWf m = true) :
    framebufferWf (writeCell m w) = true :=
  sortedBelow_insertAt w.2 h (index_lt_cellCount w.1)

/-- A write list keeps the canonical form. -/
theorem framebufferWf_applyWrites {m : Framebuffer} (ws : List FbWrite) (h : framebufferWf m = true) :
    framebufferWf (applyWrites m ws) = true := by
  induction ws generalizing m with
  | nil => exact h
  | cons w ws ih => exact ih (framebufferWf_writeCell w h)

theorem framebufferWf_filter {m : Framebuffer} (p : Nat × Colour → Bool) (h : framebufferWf m = true) :
    framebufferWf (m.filter p) = true :=
  sortedBelow_filter p h

theorem lookup_eq_none_of_lt {m : List (Nat × α)} {a : Nat} (h : ∀ p ∈ m, a < p.1) : lookup m a = none := by
  induction m with
  | nil => rfl
  | cons q m ih =>
    obtain ⟨b, w⟩ := q
    have hb : a < b := h (b, w) List.mem_cons_self
    rw [lookup_cons, if_neg (by omega)]
    exact ih fun p hp => h p (List.mem_cons_of_mem _ hp)

/-- Two lists in canonical order that list the same values are equal. -/
theorem eq_of_lookup_eq {m m' : List (Nat × α)} (h : m.Pairwise fun p q => p.1 < q.1)
    (h' : m'.Pairwise fun p q => p.1 < q.1) (heq : ∀ a, lookup m a = lookup m' a) : m = m' := by
  induction m generalizing m' with
  | nil =>
    cases m' with
    | nil => rfl
    | cons q m' => simpa [lookup] using heq q.1
  | cons p m ih =>
    obtain ⟨b, w⟩ := p
    cases m' with
    | nil => simpa [lookup] using heq b
    | cons q m' =>
      obtain ⟨c, v⟩ := q
      obtain ⟨hp, hm⟩ := List.pairwise_cons.1 h
      obtain ⟨hq, hm'⟩ := List.pairwise_cons.1 h'
      have hbc : b = c := by
        rcases Nat.lt_trichotomy b c with hlt | rfl | hlt
        · have := heq b
          rw [lookup_cons, if_pos rfl, lookup_cons, if_neg (by omega),
            lookup_eq_none_of_lt fun p hp' => Nat.lt_trans hlt (hq p hp')] at this
          cases this
        · rfl
        · have := heq c
          rw [lookup_cons, if_neg (by omega), lookup_cons, if_pos rfl,
            lookup_eq_none_of_lt fun p hp' => Nat.lt_trans hlt (hp p hp')] at this
          cases this
      subst hbc
      have hwv : w = v := by simpa [lookup] using heq b
      subst hwv
      refine congrArg _ (ih hm hm' fun a => ?_)
      by_cases hab : a = b
      · subst hab
        rw [lookup_eq_none_of_lt hp, lookup_eq_none_of_lt hq]
      · simpa [lookup, hab] using heq a

theorem lookup_mem {m : List (Nat × α)} {a : Nat} {v : α} (h : lookup m a = some v) : (a, v) ∈ m := by
  induction m with
  | nil => simp at h
  | cons q m ih =>
    obtain ⟨b, w⟩ := q
    rw [lookup_cons] at h
    split at h
    · rename_i hab
      cases h; subst hab
      exact List.mem_cons_self
    · exact List.mem_cons_of_mem _ (ih h)

/-- Two canonical tables that read alike are equal data. -/
theorem table_eq_of_read_eq {size : Nat} {m m' : Table} (h : tableWf size m = true) (h' : tableWf size m' = true)
    (heq : ∀ a, readTable m a = readTable m' a) : m = m' := by
  rw [tableWf_iff, sortedBelow_iff] at h h'
  refine eq_of_lookup_eq h.1.1 h'.1.1 fun a => ?_
  have ha := heq a
  unfold readTable at ha
  cases hm : lookup m a with
  | none =>
    cases hm' : lookup m' a with
    | none => rfl
    | some v =>
      rw [hm, hm'] at ha
      exact absurd ha.symm (h'.2 _ (lookup_mem hm'))
  | some w =>
    cases hm' : lookup m' a with
    | none =>
      rw [hm, hm'] at ha
      exact absurd ha (h.2 _ (lookup_mem hm))
    | some v =>
      rw [hm, hm'] at ha
      simpa using ha

/-! Write lists. -/

@[simp] theorem applyWrites_nil (m : Framebuffer) : applyWrites m [] = m := rfl

@[simp] theorem applyWrites_cons (m : Framebuffer) (w : FbWrite) (ws : List FbWrite) :
    applyWrites m (w :: ws) = applyWrites (writeCell m w) ws := rfl

theorem applyWrites_append (m : Framebuffer) (ws ws' : List FbWrite) :
    applyWrites m (ws ++ ws') = applyWrites (applyWrites m ws) ws' := by
  simp [applyWrites, List.foldl_append]

theorem lookup_writeCell (m : Framebuffer) (w : FbWrite) (i : Index) :
    lookup (writeCell m w) i.toNat = if i = w.1 then some w.2 else lookup m i.toNat := by
  unfold writeCell
  split
  · rename_i h; subst h; simp
  · rename_i h
    exact lookup_insertAt_other m w.2 fun hn => h (BitVec.eq_of_toNat_eq hn)

/-- A cell that no write of the list names keeps its value. -/
theorem lookup_applyWrites_of_not_mem (m : Framebuffer) (ws : List FbWrite) (i : Index)
    (h : ∀ w ∈ ws, w.1 ≠ i) : lookup (applyWrites m ws) i.toNat = lookup m i.toNat := by
  induction ws generalizing m with
  | nil => rfl
  | cons w ws ih =>
    rw [applyWrites_cons, ih _ fun w' hw' => h w' (List.mem_cons_of_mem _ hw'), lookup_writeCell,
      if_neg fun hi => h w List.mem_cons_self hi.symm]

/-- If every write of the list to a cell has the same colour, and there is one, the cell holds that colour. -/
theorem lookup_applyWrites_of_mem (m : Framebuffer) (ws : List FbWrite) (i : Index) (c : Colour)
    (hall : ∀ w ∈ ws, w.1 = i → w.2 = c) (hex : ∃ w ∈ ws, w.1 = i) :
    lookup (applyWrites m ws) i.toNat = some c := by
  induction ws generalizing m with
  | nil => obtain ⟨w, hw, _⟩ := hex; cases hw
  | cons w ws ih =>
    rw [applyWrites_cons]
    by_cases hrest : ∃ w' ∈ ws, w'.1 = i
    · exact ih _ (fun w' hw' => hall w' (List.mem_cons_of_mem _ hw')) hrest
    · have hw : w.1 = i := by
        obtain ⟨w', hw', hi⟩ := hex
        rcases List.mem_cons.1 hw' with rfl | hw'
        · exact hi
        · exact absurd ⟨w', hw', hi⟩ hrest
      rw [lookup_applyWrites_of_not_mem _ _ _ fun w' hw' hi => hrest ⟨w', hw', hi⟩, lookup_writeCell,
        if_pos hw.symm, hall w List.mem_cons_self hw]

/-! The indices of the plane. -/

@[simp] theorem length_planeIndices : planeIndices.length = cellCount := by
  unfold planeIndices
  exact (List.length_map ..).trans List.length_range

theorem planeIndices_eq : planeIndices = (List.range 65536).map (BitVec.ofNat 16) := by
  unfold planeIndices
  rfl

theorem mem_planeIndices (i : Index) : i ∈ planeIndices := by
  unfold planeIndices
  exact List.mem_map.2 ⟨i.toNat, List.mem_range.2 i.isLt, by simp⟩

/-- A write list that paints each cell once, in index order. -/
theorem lookup_applyWrites_plane (m : Framebuffer) (f : Index → Colour) (i : Index) :
    lookup (applyWrites m (planeIndices.map fun j => (j, f j))) i.toNat = some (f i) := by
  refine lookup_applyWrites_of_mem _ _ _ _ (fun w hw hi => ?_) ⟨(i, f i), ?_, rfl⟩
  · obtain ⟨j, _, rfl⟩ := List.mem_map.1 hw
    rw [← hi]
  · exact List.mem_map.2 ⟨i, mem_planeIndices i, rfl⟩

end Sys2Proof.Machine
end

