-- ==== Sys2Proof/Laws/Random.lean ====
section
/-! SUPPORT. Laws of draws and of the refill of a table. -/
namespace Sys2Proof.Machine

@[simp] theorem afterDraws_zero (g : RngState) : afterDraws 0 g = g := by simp only [afterDraws]

theorem afterDraws_succ (n : Nat) (g : RngState) : afterDraws (n + 1) g = afterDraws n (afterDraw g) := by
  simp only [afterDraws]

theorem afterDraws_add (n k : Nat) (g : RngState) : afterDraws (n + k) g = afterDraws k (afterDraws n g) := by
  induction n generalizing g with
  | zero => simp
  | succ n ih => rw [Nat.succ_add, afterDraws_succ, ih, afterDraws_succ]

/-- Refilling leaves the entries outside the refilled range alone. -/
theorem readTable_refillFrom_outside (n a : Nat) (m : Table) (g : RngState) {b : Nat} (h : b < a ∨ a + n ≤ b) :
    readTable (refillFrom n a m g) b = readTable m b := by
  induction n generalizing a m g with
  | zero => simp only [refillFrom]
  | succ n ih =>
    rw [refillFrom, ih _ _ _ (by omega), readTable_writeTable_other _ _ (by omega)]

/-- The `k`-th refilled entry holds the byte of the `k`-th draw. -/
theorem readTable_refillFrom_inside (n a : Nat) (m : Table) (g : RngState) {k : Nat} (h : k < n) :
    readTable (refillFrom n a m g) (a + k) = drawnByte (afterDraws k g) := by
  induction n generalizing a m g k with
  | zero => omega
  | succ n ih =>
    rw [refillFrom]
    cases k with
    | zero => simp [readTable_refillFrom_outside n (a + 1) _ _ (b := a) (by omega)]
    | succ k =>
      rw [afterDraws_succ, ← ih (a + 1) (writeTable m a (drawnByte g)) (afterDraw g) (by omega)]
      congr 1
      omega

/-- Refilling keeps the canonical form. -/
theorem tableWf_refillFrom {size : Nat} (n a : Nat) {m : Table} (g : RngState) (h : tableWf size m = true)
    (hn : a + n ≤ size) : tableWf size (refillFrom n a m g) = true := by
  induction n generalizing a m g with
  | zero => simpa only [refillFrom] using h
  | succ n ih =>
    rw [refillFrom]
    exact ih (a + 1) _ (tableWf_writeTable _ h (by omega)) (by omega)

theorem readTable_freeTableFrom_outside (choice base n a : Nat) (m : Table) {b : Nat} (h : b < a ∨ a + n ≤ b) :
    readTable (freeTableFrom choice base n a m) b = readTable m b := by
  induction n generalizing a m with
  | zero => simp only [freeTableFrom]
  | succ n ih =>
    rw [freeTableFrom, ih _ _ (by omega), readTable_writeTable_other _ _ (by omega)]

/-- Every entry of a freely filled table is a free byte. -/
theorem readTable_freeTableFrom_inside (choice base n a : Nat) (m : Table) {k : Nat} (h : k < n) :
    readTable (freeTableFrom choice base n a m) (a + k) = Config.freeByte choice (base + (a + k)) := by
  induction n generalizing a m k with
  | zero => omega
  | succ n ih =>
    rw [freeTableFrom]
    cases k with
    | zero => simp [readTable_freeTableFrom_outside choice base n (a + 1) _ (b := a) (by omega)]
    | succ k =>
      have := ih (a + 1) (writeTable m a (Config.freeByte choice (base + a))) (k := k) (by omega)
      rw [show a + 1 + k = a + (k + 1) by omega] at this
      exact this

theorem tableWf_freeTableFrom {size : Nat} (choice base n a : Nat) {m : Table} (h : tableWf size m = true)
    (hn : a + n ≤ size) : tableWf size (freeTableFrom choice base n a m) = true := by
  induction n generalizing a m with
  | zero => simpa only [freeTableFrom] using h
  | succ n ih =>
    rw [freeTableFrom]
    exact ih (a + 1) (tableWf_writeTable _ h (by omega)) (by omega)

/-- A refill in two parts. -/
theorem refillFrom_add (n k a : Nat) (m : Table) (g : RngState) :
    refillFrom (n + k) a m g = refillFrom k (a + n) (refillFrom n a m g) (afterDraws n g) := by
  induction n generalizing a m g with
  | zero => simp [refillFrom]
  | succ n ih =>
    rw [Nat.succ_add, refillFrom, ih, refillFrom, afterDraws_succ, Nat.add_right_comm, Nat.add_assoc]

/-- The draws of `n` rows. -/
theorem afterRows_eq (n : Nat) (g : RngState) : afterRows n g = afterDraws (n * 256) g := by
  induction n generalizing g with
  | zero => simp [afterRows]
  | succ n ih => rw [afterRows, ih, Nat.succ_mul, Nat.add_comm, afterDraws_add, rowSize]

/-- Refilling `n` rows. -/
theorem refillRows_eq (n a : Nat) (m : Table) (g : RngState) : refillRows n a m g = refillFrom (n * 256) a m g := by
  induction n generalizing a m g with
  | zero => simp [refillRows, refillFrom]
  | succ n ih => rw [refillRows, ih, Nat.succ_mul, Nat.add_comm (n * 256), refillFrom_add, rowSize]

theorem freeTableFrom_add (choice base n k a : Nat) (m : Table) :
    freeTableFrom choice base (n + k) a m =
      freeTableFrom choice base k (a + n) (freeTableFrom choice base n a m) := by
  induction n generalizing a m with
  | zero => simp [freeTableFrom]
  | succ n ih => rw [Nat.succ_add, freeTableFrom, ih, freeTableFrom, Nat.add_right_comm, Nat.add_assoc]

theorem freeRowsFrom_eq (choice base n a : Nat) (m : Table) :
    freeRowsFrom choice base n a m = freeTableFrom choice base (n * 256) a m := by
  induction n generalizing a m with
  | zero => simp [freeRowsFrom, freeTableFrom]
  | succ n ih => rw [freeRowsFrom, ih, Nat.succ_mul, Nat.add_comm (n * 256), freeTableFrom_add, rowSize]

theorem rows_eq_ft2Size : rowCount * 256 = ft2Size := rfl

/-- The draws of a whole refill of FT2. -/
theorem afterRows_whole (g : RngState) : afterRows rowCount g = afterDraws ft2Size g := by
  rw [afterRows_eq, rows_eq_ft2Size]

/-- A whole refill of FT2. -/
theorem refillRows_whole (m : Table) (g : RngState) : refillRows rowCount 0 m g = refillFrom ft2Size 0 m g := by
  rw [refillRows_eq, rows_eq_ft2Size]

/-- FT2 filled freely. -/
theorem freeRowsFrom_whole (choice base : Nat) (m : Table) :
    freeRowsFrom choice base rowCount 0 m = freeTableFrom choice base ft2Size 0 m := by
  rw [freeRowsFrom_eq, rows_eq_ft2Size]

/-- A whole refill is in canonical form. -/
theorem tableWf_refill {size : Nat} {m : Table} (g : RngState) (h : tableWf size m = true) :
    tableWf size (refillFrom size 0 m g) = true := tableWf_refillFrom size 0 g h (by rw [Nat.zero_add])

/-- A table filled freely is in canonical form. -/
theorem tableWf_freeTable {size : Nat} {m : Table} (choice base : Nat) (h : tableWf size m = true) :
    tableWf size (freeTableFrom choice base size 0 m) = true :=
  tableWf_freeTableFrom choice base size 0 h (by rw [Nat.zero_add])

theorem readTable_of_size_le {size : Nat} {m : Table} (h : tableWf size m = true) {a : Nat} (ha : size ≤ a) :
    readTable m a = unlistedByte := by
  rw [tableWf_iff, sortedBelow_iff] at h
  unfold readTable
  cases hl : lookup m a with
  | none => rfl
  | some v =>
    have := h.1.2 _ (lookup_mem hl)
    simp only at this
    omega

/-- A whole refill makes the table the same whatever it held before. -/
theorem refillFrom_whole_eq {size : Nat} {m m' : Table} (g : RngState) (h : tableWf size m = true)
    (h' : tableWf size m' = true) : refillFrom size 0 m g = refillFrom size 0 m' g := by
  refine table_eq_of_read_eq (tableWf_refillFrom size 0 g h (by omega)) (tableWf_refillFrom size 0 g h' (by omega))
    fun a => ?_
  by_cases ha : a < size
  · have h1 := readTable_refillFrom_inside size 0 m g ha
    have h2 := readTable_refillFrom_inside size 0 m' g ha
    rw [Nat.zero_add] at h1 h2
    rw [h1, h2]
  · rw [readTable_of_size_le (tableWf_refillFrom size 0 g h (by omega)) (by omega),
      readTable_of_size_le (tableWf_refillFrom size 0 g h' (by omega)) (by omega)]

theorem ft2Address_lt (r c : Byte) : ft2Address r c < ft2Size := by
  unfold ft2Address ft2Size
  have := r.isLt
  have := c.isLt
  omega

theorem ft2Address_inj {r c r' c' : Byte} : ft2Address r c = ft2Address r' c' ↔ r = r' ∧ c = c' := by
  unfold ft2Address
  have := c.isLt
  have := c'.isLt
  constructor
  · intro h
    exact ⟨BitVec.eq_of_toNat_eq (by omega), BitVec.eq_of_toNat_eq (by omega)⟩
  · rintro ⟨rfl, rfl⟩
    rfl

end Sys2Proof.Machine
end

