-- ==== Sys2Proof/Laws/Canonical.lean ====
section
/-! SUPPORT. The memories keep their canonical form: every command, the reset sequence, every action of the host, and the
state right after reset. -/
namespace Sys2Proof.Machine

/-- FT1, FT2 and the framebuffer are in canonical form. -/
structure Canonical (s : State) : Prop where
  ft1 : tableWf ft1Size s.ft1 = true
  ft2 : tableWf ft2Size s.ft2 = true
  fb : framebufferWf s.fb = true

theorem Canonical.of_same {s t : State} (h : Canonical s) (h1 : t.ft1 = s.ft1) (h2 : t.ft2 = s.ft2)
    (h3 : t.fb = s.fb) : Canonical t :=
  ⟨h1 ▸ h.ft1, h2 ▸ h.ft2, h3 ▸ h.fb⟩

theorem canonical_writeFt1 (a v : Byte) {s : State} (h : Canonical s) : Canonical (writeFt1 a v s) :=
  ⟨tableWf_writeTable v h.ft1 a.isLt, h.ft2, h.fb⟩

theorem canonical_writeFt2 (r c v : Byte) {s : State} (h : Canonical s) : Canonical (writeFt2 r c v s) :=
  ⟨h.ft1, tableWf_writeTable v h.ft2 (ft2Address_lt r c), h.fb⟩

theorem canonical_refillFt1 {s : State} (h : Canonical s) : Canonical (refillFt1 s) := by
  constructor
  · rw [refillFt1_ft1]; exact tableWf_refill s.rng h.ft1
  · rw [refillFt1_ft2]; exact h.ft2
  · rw [refillFt1_fb]; exact h.fb

theorem canonical_refillFt2 {s : State} (h : Canonical s) : Canonical (refillFt2 s) := by
  constructor
  · rw [refillFt2_ft1]; exact h.ft1
  · rw [refillFt2_ft2, refillRows_whole]; exact tableWf_refill s.rng h.ft2
  · rw [refillFt2_fb]; exact h.fb

theorem canonical_issue (ws : List FbWrite) {s : State} (h : Canonical s) : Canonical (issue ws s) :=
  ⟨h.ft1, h.ft2, framebufferWf_applyWrites ws h.fb⟩

theorem canonical_frameAdvance (pressed : Byte) {s : State} (h : Canonical s) : Canonical (frameAdvance pressed s) := by
  rw [frameAdvance_eq]
  exact h.of_same rfl rfl rfl

theorem canonical_frameScroll (held pressed : Byte) {s : State} (h : Canonical s) :
    Canonical (frameScroll held pressed s) := by
  rw [frameScroll_eq]
  exact h.of_same rfl rfl rfl

theorem canonical_frameToggle (pressed : Byte) {s : State} (h : Canonical s) : Canonical (frameToggle pressed s) := by
  rw [frameToggle_eq]
  exact h.of_same rfl rfl rfl

theorem canonical_reseedActive {s : State} (h : Canonical s) : Canonical (reseedActive s) := by
  unfold reseedActive
  split
  · exact canonical_refillFt2 h
  · exact canonical_refillFt1 h
  · exact canonical_refillFt1 h

theorem canonical_frameBranch (held pressed : Byte) {s : State} (h : Canonical s) :
    Canonical (frameBranch held pressed s) := by
  unfold frameBranch
  split
  · exact canonical_issue _ h
  · split
    · exact canonical_issue _ (canonical_reseedActive h)
    · unfold drawActive
      split <;> exact canonical_issue _ h

theorem canonical_frameDispatch (held pressed : Byte) {s : State} (h : Canonical s) :
    Canonical (frameDispatch held pressed s) := by
  unfold frameDispatch
  split
  · exact canonical_frameBranch held pressed (canonical_frameScroll held pressed h)
  · exact canonical_frameBranch held pressed (canonical_frameScroll held pressed h)
  · unfold framePattern
    split <;> exact canonical_issue _ (canonical_frameToggle pressed h)

theorem canonical_emitRotate {s : State} (h : Canonical s) : Canonical (emitRotate s) := ⟨h.ft1, h.ft2, h.fb⟩

theorem canonical_runFrame (held pressed : Byte) {s : State} (h : Canonical s) :
    Canonical (runFrame held pressed s) :=
  canonical_emitRotate (canonical_frameDispatch held pressed (canonical_frameAdvance pressed h))

/-- Every command keeps the canonical form. -/
theorem canonical_effect (i : Instr) {s : State} (h : Canonical s) : Canonical (effect i s) := by
  cases i with
  | frame held pressed => rw [effect]; exact canonical_runFrame held pressed h
  | lut1Wr a v => rw [effect]; exact canonical_writeFt1 a v h
  | lut2Wr r c v => rw [effect]; exact canonical_writeFt2 r c v h
  | rand1 => rw [effect]; exact canonical_refillFt1 h
  | rand2 => rw [effect]; exact canonical_refillFt2 h
  | fill sel => rw [effect, paintSolid_eq]; exact canonical_issue _ h
  | patStripe => rw [effect, paintStripe_eq]; exact canonical_issue _ h
  | patChecker => rw [effect, paintChecker_eq]; exact canonical_issue _ h
  | drawFn1 => rw [effect, plot1_eq]; exact canonical_issue _ h
  | drawFn2 => rw [effect, plot2_eq]; exact canonical_issue _ h
  | _ => rw [effect]; exact h.of_same rfl rfl rfl

theorem canonical_freeTables {s : State} (h : Canonical s) : Canonical (freeTables s) := by
  constructor
  · rw [freeTables_ft1]; exact tableWf_freeTable s.choices 0 h.ft1
  · rw [freeTables_ft2, freeRowsFrom_whole]; exact tableWf_freeTable s.choices ft1Size h.ft2
  · rw [freeTables_fb]; exact h.fb

/-- The reset sequence keeps the canonical form. -/
theorem canonical_resetSequence (req : ResetRequest) {s : State} (h : Canonical s) :
    Canonical (resetSequence req s) := by
  have h' : ∀ b, Canonical (setErrConfig b (resetRegisters req s)) := fun b => h.of_same rfl rfl rfl
  unfold resetSequence
  split
  · unfold resetFill
    split
    · exact canonical_refillFt2 (canonical_refillFt1 (h' false))
    · exact canonical_freeTables (h' false)
  · exact canonical_freeTables (h' true)

theorem canonical_forgetCells {s : State} (h : Canonical s) : Canonical (forgetCells s) := ⟨h.ft1, h.ft2, framebufferWf_nil⟩

theorem canonical_hostReset (req : ResetRequest) {s : State} (h : Canonical s) : Canonical (hostReset req s) :=
  canonical_resetSequence req (canonical_forgetCells h)

/-- Every action of the host or of the input device keeps the canonical form. -/
theorem canonical_hostEvent (e : HostEvent) {s : State} (h : Canonical s) : Canonical (hostEvent e s) := by
  cases e with
  | writeCell i c =>
    simp only [hostEvent, hostWriteCell]
    split
    · exact ⟨h.ft1, h.ft2, framebufferWf_filter _ h.fb⟩
    · exact ⟨h.ft1, h.ft2, framebufferWf_writeCell _ h.fb⟩
  | readCell i =>
    simp only [hostEvent, hostReadCell]
    split
    · exact h.of_same rfl rfl rfl
    · split <;> exact h.of_same rfl rfl rfl
  | readRes => simp only [hostEvent, hostReadRes]; split <;> exact h.of_same rfl rfl rfl
  | readStatus => simp only [hostEvent, hostReadStatus]; split <;> exact h.of_same rfl rfl rfl
  | press b => exact h.of_same rfl rfl rfl
  | release b => exact h.of_same rfl rfl rfl

theorem canonical_busyEvents (es : List BusyEvent) {s : State} (h : Canonical s) : Canonical (busyEvents es s) := by
  induction es generalizing s with
  | nil => exact h
  | cons e es ih =>
    refine ih (s := busyEvent e s) ?_
    cases e with
    | host e => exact canonical_hostEvent e h
    | command cw => exact h

theorem canonical_finish (during : List BusyEvent) {s : State} (h : Canonical s) : Canonical (finish during s) := by
  have h' := canonical_busyEvents during h
  unfold finish applyStrobe
  split <;> exact h'.of_same rfl rfl rfl

/-- The state right after reset is in canonical form. -/
theorem canonical_reset : Canonical State.reset := by
  constructor
  · exact tableWf_refill _ (tableWf_nil _)
  · rw [State.reset, refillRows_whole]; exact tableWf_refill _ (tableWf_nil _)
  · exact framebufferWf_nil

end Sys2Proof.Machine
end

