-- ==== Sys2Proof/Laws/Decode.lean ====
section
/-! SUPPORT. Laws of the fields of a word laid out byte by byte, and of the colour selector. -/
namespace Sys2Proof

/-- A bit of four bytes laid side by side. -/
theorem getLsbD_bytes (a b c d : Byte) (i : Nat) :
    (a ++ b ++ c ++ d).getLsbD i =
      if i < 8 then d.getLsbD i else if i < 16 then c.getLsbD (i - 8)
      else if i < 24 then b.getLsbD (i - 16) else a.getLsbD (i - 24) := by
  rw [BitVec.getLsbD_append, BitVec.getLsbD_append, BitVec.getLsbD_append]
  by_cases h1 : i < 8
  · simp only [h1, if_true]
  · by_cases h2 : i < 16
    · simp only [h1, h2, if_true, if_false, show i - 8 < 8 by omega]
    · by_cases h3 : i < 24
      · simp only [h1, h2, h3, if_true, if_false, show ¬ i - 8 < 8 by omega, Nat.sub_sub,
          show i - (8 + 8) < 8 by omega]
      · simp only [h1, h2, h3, if_false, show ¬ i - 8 < 8 by omega, Nat.sub_sub, show ¬ i - (8 + 8) < 8 by omega]

theorem opField_bytes (a b c d : Byte) : opField (a ++ b ++ c ++ d) = a := by
  apply BitVec.eq_of_getLsbD_eq
  intro i hi
  rw [opField, BitVec.getLsbD_extractLsb']
  erw [getLsbD_bytes]
  simp only [hi, show ¬ 24 + i < 8 by omega, show ¬ 24 + i < 16 by omega, show ¬ 24 + i < 24 by omega, if_false,
    decide_true, Bool.true_and, Nat.add_sub_cancel_left]

theorem byte2_bytes (a b c d : Byte) : byte2 (a ++ b ++ c ++ d) = b := by
  apply BitVec.eq_of_getLsbD_eq
  intro i hi
  rw [byte2, BitVec.getLsbD_extractLsb']
  erw [getLsbD_bytes]
  simp only [hi, show ¬ 16 + i < 8 by omega, show ¬ 16 + i < 16 by omega, show 16 + i < 24 by omega, if_false, if_true,
    decide_true, Bool.true_and, Nat.add_sub_cancel_left]

theorem byte1_bytes (a b c d : Byte) : byte1 (a ++ b ++ c ++ d) = c := by
  apply BitVec.eq_of_getLsbD_eq
  intro i hi
  rw [byte1, BitVec.getLsbD_extractLsb']
  erw [getLsbD_bytes]
  simp only [hi, show ¬ 8 + i < 8 by omega, show 8 + i < 16 by omega, if_false, if_true,
    decide_true, Bool.true_and, Nat.add_sub_cancel_left]

theorem byte0_bytes (a b c d : Byte) : byte0 (a ++ b ++ c ++ d) = d := by
  apply BitVec.eq_of_getLsbD_eq
  intro i hi
  rw [byte0, BitVec.getLsbD_extractLsb']
  erw [getLsbD_bytes]
  simp only [Nat.zero_add, hi, if_true, decide_true, Bool.true_and]

/-- A word is its four bytes side by side. -/
theorem bytes_of_word (w : Word) : opField w ++ byte2 w ++ byte1 w ++ byte0 w = w := by
  apply BitVec.eq_of_getLsbD_eq
  intro i hi
  erw [getLsbD_bytes]
  simp only [opField, byte2, byte1, byte0, BitVec.getLsbD_extractLsb']
  split
  · simp only [*, Nat.zero_add, decide_true, Bool.true_and]
  · split
    · simp only [show i - 8 < 8 by omega, show 8 + (i - 8) = i by omega, decide_true, Bool.true_and]
    · split
      · simp only [show i - 16 < 8 by omega, show 16 + (i - 16) = i by omega, decide_true, Bool.true_and]
      · simp only [show i - 24 < 8 by omega, show 24 + (i - 24) = i by omega, decide_true, Bool.true_and]

@[simp] theorem ofCode_code (sel : ColourSel) : ColourSel.ofCode sel.code = sel := by
  cases sel <;> decide

@[simp] theorem code_ofCode (v : BitVec 2) : (ColourSel.ofCode v).code = v := by
  revert v
  decide

@[simp] theorem whenZero_zero {n : Nat} (i : Instr) : whenZero (0 : BitVec n) i = .ok i := by simp [whenZero]

/-- What a format's check answers. -/
theorem whenZero_ok_iff {n : Nat} (r : BitVec n) (i j : Instr) : whenZero r i = .ok j ↔ r = 0 ∧ i = j := by
  unfold whenZero
  by_cases h : r = 0
  · rw [if_pos h]
    exact ⟨fun e => ⟨h, Except.ok.inj e⟩, fun e => congrArg _ e.2⟩
  · rw [if_neg h]
    exact ⟨nofun, fun e => absurd e.1 h⟩

theorem whenZero_error_iff {n : Nat} (r : BitVec n) (i : Instr) (e : IllegalWord) :
    whenZero r i = .error e ↔ r ≠ 0 ∧ e = .reservedBit := by
  unfold whenZero
  by_cases h : r = 0
  · rw [if_pos h]
    exact ⟨nofun, fun e => absurd h e.1⟩
  · rw [if_neg h]
    exact ⟨fun e => ⟨h, (Except.error.inj e).symm⟩, fun e => congrArg _ e.2.symm⟩

theorem getLsbD_bytes_index (a b : Byte) (i : Index) (k : Nat) :
    (a ++ b ++ i).getLsbD k =
      if k < 16 then i.getLsbD k else if k < 24 then b.getLsbD (k - 16) else a.getLsbD (k - 24) := by
  rw [BitVec.getLsbD_append, BitVec.getLsbD_append]
  by_cases h1 : k < 16
  · simp only [h1, if_true]
  · by_cases h2 : k < 24
    · simp only [h1, h2, if_true, if_false, show k - 16 < 8 by omega]
    · simp only [h1, h2, if_false, show ¬ k - 16 < 8 by omega, Nat.sub_sub]

theorem index_of_halves (i : Index) : i.extractLsb' 8 8 ++ i.extractLsb' 0 8 = i := by
  apply BitVec.eq_of_getLsbD_eq
  intro k hk
  rw [BitVec.getLsbD_append, BitVec.getLsbD_extractLsb', BitVec.getLsbD_extractLsb']
  by_cases h : k < 8
  · simp only [h, if_true, decide_true, Bool.true_and, Nat.zero_add]
  · simp only [h, if_false, show k - 8 < 8 by omega, decide_true, Bool.true_and, show 8 + (k - 8) = k by omega]

theorem opField_index (a b : Byte) (i : Index) : opField (a ++ b ++ i) = a := by
  apply BitVec.eq_of_getLsbD_eq
  intro k hk
  rw [opField, BitVec.getLsbD_extractLsb']
  erw [getLsbD_bytes_index]
  simp only [hk, show ¬ 24 + k < 16 by omega, show ¬ 24 + k < 24 by omega, if_false, decide_true, Bool.true_and,
    Nat.add_sub_cancel_left]

theorem byte2_index (a b : Byte) (i : Index) : byte2 (a ++ b ++ i) = b := by
  apply BitVec.eq_of_getLsbD_eq
  intro k hk
  rw [byte2, BitVec.getLsbD_extractLsb']
  erw [getLsbD_bytes_index]
  simp only [hk, show ¬ 16 + k < 16 by omega, show 16 + k < 24 by omega, if_false, if_true, decide_true,
    Bool.true_and, Nat.add_sub_cancel_left]

theorem getLsbD_bytes_mid (a : Byte) (m : BitVec 16) (d : Byte) (k : Nat) :
    (a ++ m ++ d).getLsbD k =
      if k < 8 then d.getLsbD k else if k < 24 then m.getLsbD (k - 8) else a.getLsbD (k - 24) := by
  rw [BitVec.getLsbD_append, BitVec.getLsbD_append]
  by_cases h1 : k < 8
  · simp only [h1, if_true]
  · by_cases h2 : k < 24
    · simp only [h1, h2, if_true, if_false, show k - 8 < 16 by omega]
    · simp only [h1, h2, if_false, show ¬ k - 8 < 16 by omega, Nat.sub_sub]

theorem opField_mid (a : Byte) (m : BitVec 16) (d : Byte) : opField (a ++ m ++ d) = a := by
  apply BitVec.eq_of_getLsbD_eq
  intro k hk
  rw [opField, BitVec.getLsbD_extractLsb']
  erw [getLsbD_bytes_mid]
  simp only [hk, show ¬ 24 + k < 8 by omega, show ¬ 24 + k < 24 by omega, if_false, decide_true, Bool.true_and,
    Nat.add_sub_cancel_left]

theorem midField_mid (a : Byte) (m : BitVec 16) (d : Byte) :
    BitVec.extractLsb' 8 16 (a ++ m ++ d : Word) = m := by
  apply BitVec.eq_of_getLsbD_eq
  intro k hk
  rw [BitVec.getLsbD_extractLsb']
  erw [getLsbD_bytes_mid]
  simp only [hk, show ¬ 8 + k < 8 by omega, show 8 + k < 24 by omega, if_false, if_true, decide_true, Bool.true_and,
    Nat.add_sub_cancel_left]

theorem byte0_mid (a : Byte) (m : BitVec 16) (d : Byte) : byte0 (a ++ m ++ d) = d := by
  apply BitVec.eq_of_getLsbD_eq
  intro k hk
  rw [byte0, BitVec.getLsbD_extractLsb']
  erw [getLsbD_bytes_mid]
  simp only [Nat.zero_add, hk, if_true, decide_true, Bool.true_and]

theorem idxField_index (a b : Byte) (i : Index) : idxField (a ++ b ++ i) = i := by
  apply BitVec.eq_of_getLsbD_eq
  intro k hk
  rw [idxField, BitVec.getLsbD_extractLsb']
  erw [BitVec.getLsbD_append]
  simp only [Nat.zero_add, hk, if_true, decide_true, Bool.true_and]

/-- A bit of the opcode field. -/
theorem getLsbD_opField (cw : Word) {k : Nat} (hk : k < 8) : (opField cw).getLsbD k = cw.getLsbD (24 + k) := by
  rw [opField, BitVec.getLsbD_extractLsb', decide_eq_true hk, Bool.true_and]

/-- A word matches a row whose mask covers its bits from `lo` up exactly when its opcode is the row's and its reserved
bits, those from `lo` to 23, are 0. -/
theorem masked_eq_iff {lo : Nat} (hlo : lo ≤ 24) (cw : Word) (op : Byte) :
    cw &&& (BitVec.allOnes 32 <<< lo) = op.setWidth 32 <<< 24 ↔
      opField cw = op ∧ cw.extractLsb' lo (24 - lo) = 0#(24 - lo) := by
  constructor
  · intro h
    have hb : ∀ k, k < 32 → (decide (lo ≤ k) && cw.getLsbD k) = (decide (24 ≤ k) && op.getLsbD (k - 24)) := by
      intro k hk
      have := congrArg (fun w => w.getLsbD k) h
      simp only [BitVec.getLsbD_and, BitVec.getLsbD_shiftLeft, BitVec.getLsbD_allOnes, BitVec.getLsbD_setWidth] at this
      rw [decide_eq_true (show k - lo < 32 by omega), decide_eq_true (show k - 24 < 32 by omega), decide_eq_true hk,
        Bool.true_and, Bool.true_and, Bool.true_and, Bool.and_true] at this
      by_cases h1 : k < lo
      · by_cases h2 : k < 24
        · simp [show ¬ lo ≤ k by omega, show ¬ 24 ≤ k by omega]
        · omega
      · by_cases h2 : k < 24
        · simpa [h1, h2, show lo ≤ k by omega, show ¬ 24 ≤ k by omega] using this
        · simpa [h1, h2, show lo ≤ k by omega, show 24 ≤ k by omega] using this
    constructor
    · apply BitVec.eq_of_getLsbD_eq
      intro k hk
      rw [getLsbD_opField cw hk]
      simpa [show lo ≤ 24 + k by omega] using hb (24 + k) (by omega)
    · apply BitVec.eq_of_getLsbD_eq
      intro k hk
      rw [BitVec.getLsbD_extractLsb', BitVec.getLsbD_zero]
      have := hb (lo + k) (by omega)
      simp [show ¬ 24 ≤ lo + k by omega] at this
      simp [this]
  · rintro ⟨rfl, h⟩
    apply BitVec.eq_of_getLsbD_eq
    intro k hk
    simp only [BitVec.getLsbD_and, BitVec.getLsbD_shiftLeft, BitVec.getLsbD_allOnes, BitVec.getLsbD_setWidth, hk,
      decide_true, Bool.true_and]
    by_cases h2 : k < 24
    · by_cases h1 : k < lo
      · simp [h1, h2]
      · have := congrArg (fun w => w.getLsbD (k - lo)) h
        simp only [BitVec.getLsbD_extractLsb', BitVec.getLsbD_zero] at this
        simp [show k - lo < 24 - lo by omega, show lo + (k - lo) = k by omega] at this
        simp [this, h2]
    · rw [getLsbD_opField cw (by omega)]
      simp [h2, show ¬ k < lo by omega, show k - lo < 32 by omega, show k - 24 < 32 by omega, show 24 + (k - 24) = k by omega]
end Sys2Proof
end

