-- ==== Sys2Proof/Laws/Frame.lean ====
section
/-! SUPPORT. What each part of a frame can do: the mode advance, the scroll, the toggles, the one branch that runs. -/
namespace Sys2Proof.Machine

variable (held pressed : Byte) (s : State)

/-! The mode advance changes MODE only. -/

theorem frameAdvance_mode :
    (frameAdvance pressed s).mode = if isSet pressed (.face s.cfg.btnAdvance) then nextMode s.mode else s.mode := by
  unfold frameAdvance
  split <;> rfl
@[simp] theorem frameAdvance_xoff : (frameAdvance pressed s).xoff = s.xoff := by rw [frameAdvance_eq]
@[simp] theorem frameAdvance_yoff : (frameAdvance pressed s).yoff = s.yoff := by rw [frameAdvance_eq]
@[simp] theorem frameAdvance_chk : (frameAdvance pressed s).chk = s.chk := by rw [frameAdvance_eq]
@[simp] theorem frameAdvance_rng : (frameAdvance pressed s).rng = s.rng := by rw [frameAdvance_eq]
@[simp] theorem frameAdvance_ft1 : (frameAdvance pressed s).ft1 = s.ft1 := by rw [frameAdvance_eq]
@[simp] theorem frameAdvance_ft2 : (frameAdvance pressed s).ft2 = s.ft2 := by rw [frameAdvance_eq]
@[simp] theorem frameAdvance_res : (frameAdvance pressed s).res = s.res := by rw [frameAdvance_eq]
@[simp] theorem frameAdvance_errIllegal : (frameAdvance pressed s).errIllegal = s.errIllegal := by rw [frameAdvance_eq]
@[simp] theorem frameAdvance_errConfig : (frameAdvance pressed s).errConfig = s.errConfig := by rw [frameAdvance_eq]
@[simp] theorem frameAdvance_busy : (frameAdvance pressed s).busy = s.busy := by rw [frameAdvance_eq]
@[simp] theorem frameAdvance_cfg : (frameAdvance pressed s).cfg = s.cfg := by rw [frameAdvance_eq]
@[simp] theorem frameAdvance_fbWrites : (frameAdvance pressed s).fbWrites = s.fbWrites := by rw [frameAdvance_eq]
@[simp] theorem frameAdvance_strobe : (frameAdvance pressed s).strobe = s.strobe := by rw [frameAdvance_eq]
@[simp] theorem frameAdvance_fb : (frameAdvance pressed s).fb = s.fb := by rw [frameAdvance_eq]
@[simp] theorem frameAdvance_latchNow : (frameAdvance pressed s).latchNow = s.latchNow := by rw [frameAdvance_eq]
@[simp] theorem frameAdvance_latchPrev : (frameAdvance pressed s).latchPrev = s.latchPrev := by rw [frameAdvance_eq]
@[simp] theorem frameAdvance_inputs : (frameAdvance pressed s).inputs = s.inputs := by rw [frameAdvance_eq]
@[simp] theorem frameAdvance_hostData : (frameAdvance pressed s).hostData = s.hostData := by rw [frameAdvance_eq]
@[simp] theorem frameAdvance_choices : (frameAdvance pressed s).choices = s.choices := by rw [frameAdvance_eq]

/-! The scroll changes XOFF and YOFF only. -/

@[simp] theorem frameScroll_mode : (frameScroll held pressed s).mode = s.mode := by rw [frameScroll_eq]
@[simp] theorem frameScroll_chk : (frameScroll held pressed s).chk = s.chk := by rw [frameScroll_eq]
@[simp] theorem frameScroll_rng : (frameScroll held pressed s).rng = s.rng := by rw [frameScroll_eq]
@[simp] theorem frameScroll_ft1 : (frameScroll held pressed s).ft1 = s.ft1 := by rw [frameScroll_eq]
@[simp] theorem frameScroll_ft2 : (frameScroll held pressed s).ft2 = s.ft2 := by rw [frameScroll_eq]
@[simp] theorem frameScroll_res : (frameScroll held pressed s).res = s.res := by rw [frameScroll_eq]
@[simp] theorem frameScroll_errIllegal : (frameScroll held pressed s).errIllegal = s.errIllegal := by rw [frameScroll_eq]
@[simp] theorem frameScroll_errConfig : (frameScroll held pressed s).errConfig = s.errConfig := by rw [frameScroll_eq]
@[simp] theorem frameScroll_busy : (frameScroll held pressed s).busy = s.busy := by rw [frameScroll_eq]
@[simp] theorem frameScroll_cfg : (frameScroll held pressed s).cfg = s.cfg := by rw [frameScroll_eq]
@[simp] theorem frameScroll_fbWrites : (frameScroll held pressed s).fbWrites = s.fbWrites := by rw [frameScroll_eq]
@[simp] theorem frameScroll_strobe : (frameScroll held pressed s).strobe = s.strobe := by rw [frameScroll_eq]
@[simp] theorem frameScroll_fb : (frameScroll held pressed s).fb = s.fb := by rw [frameScroll_eq]
@[simp] theorem frameScroll_latchNow : (frameScroll held pressed s).latchNow = s.latchNow := by rw [frameScroll_eq]
@[simp] theorem frameScroll_latchPrev : (frameScroll held pressed s).latchPrev = s.latchPrev := by rw [frameScroll_eq]
@[simp] theorem frameScroll_inputs : (frameScroll held pressed s).inputs = s.inputs := by rw [frameScroll_eq]
@[simp] theorem frameScroll_hostData : (frameScroll held pressed s).hostData = s.hostData := by rw [frameScroll_eq]
@[simp] theorem frameScroll_choices : (frameScroll held pressed s).choices = s.choices := by rw [frameScroll_eq]

/-! The toggles change CHK only. -/

@[simp] theorem frameToggle_mode : (frameToggle pressed s).mode = s.mode := by rw [frameToggle_eq]
@[simp] theorem frameToggle_xoff : (frameToggle pressed s).xoff = s.xoff := by rw [frameToggle_eq]
@[simp] theorem frameToggle_yoff : (frameToggle pressed s).yoff = s.yoff := by rw [frameToggle_eq]
@[simp] theorem frameToggle_rng : (frameToggle pressed s).rng = s.rng := by rw [frameToggle_eq]
@[simp] theorem frameToggle_ft1 : (frameToggle pressed s).ft1 = s.ft1 := by rw [frameToggle_eq]
@[simp] theorem frameToggle_ft2 : (frameToggle pressed s).ft2 = s.ft2 := by rw [frameToggle_eq]
@[simp] theorem frameToggle_res : (frameToggle pressed s).res = s.res := by rw [frameToggle_eq]
@[simp] theorem frameToggle_errIllegal : (frameToggle pressed s).errIllegal = s.errIllegal := by rw [frameToggle_eq]
@[simp] theorem frameToggle_errConfig : (frameToggle pressed s).errConfig = s.errConfig := by rw [frameToggle_eq]
@[simp] theorem frameToggle_busy : (frameToggle pressed s).busy = s.busy := by rw [frameToggle_eq]
@[simp] theorem frameToggle_cfg : (frameToggle pressed s).cfg = s.cfg := by rw [frameToggle_eq]
@[simp] theorem frameToggle_fbWrites : (frameToggle pressed s).fbWrites = s.fbWrites := by rw [frameToggle_eq]
@[simp] theorem frameToggle_strobe : (frameToggle pressed s).strobe = s.strobe := by rw [frameToggle_eq]
@[simp] theorem frameToggle_fb : (frameToggle pressed s).fb = s.fb := by rw [frameToggle_eq]
@[simp] theorem frameToggle_latchNow : (frameToggle pressed s).latchNow = s.latchNow := by rw [frameToggle_eq]
@[simp] theorem frameToggle_latchPrev : (frameToggle pressed s).latchPrev = s.latchPrev := by rw [frameToggle_eq]
@[simp] theorem frameToggle_inputs : (frameToggle pressed s).inputs = s.inputs := by rw [frameToggle_eq]
@[simp] theorem frameToggle_hostData : (frameToggle pressed s).hostData = s.hostData := by rw [frameToggle_eq]
@[simp] theorem frameToggle_choices : (frameToggle pressed s).choices = s.choices := by rw [frameToggle_eq]

/-! The branches. -/

/-- Reset beats the others (R232). -/
theorem frameBranch_reset (h : triggered held pressed s.cfg.btnReset s.cfg.trigReset = true) :
    frameBranch held pressed s = issue (solidWrites s.cfg.colourReset) s := by
  unfold frameBranch
  rw [if_pos h, paintSolid_eq]
  rfl

/-- Reseed beats draw (R232). -/
theorem frameBranch_reseed (h : triggered held pressed s.cfg.btnReset s.cfg.trigReset = false)
    (h' : triggered held pressed s.cfg.btnReseed s.cfg.trigReseed = true) :
    frameBranch held pressed s = issue (solidWrites (reseedActive s).cfg.colourReseed) (reseedActive s) := by
  unfold frameBranch
  rw [if_neg (by rw [h]; exact Bool.false_ne_true), if_pos h', paintSolid_eq]
  rfl

/-- Otherwise the frame draws (R232). -/
theorem frameBranch_draw (h : triggered held pressed s.cfg.btnReset s.cfg.trigReset = false)
    (h' : triggered held pressed s.cfg.btnReseed s.cfg.trigReseed = false) :
    frameBranch held pressed s = drawActive s := by
  unfold frameBranch
  rw [if_neg (by rw [h]; exact Bool.false_ne_true), if_neg (by rw [h']; exact Bool.false_ne_true)]

theorem reseedActive_view (h : s.mode = .viewTwoArgFunction) : reseedActive s = refillFt2 s := by
  unfold reseedActive
  rw [h]

theorem reseedActive_visualize (h : s.mode = .visualizeOneArgFunction) : reseedActive s = refillFt1 s := by
  unfold reseedActive
  rw [h]

theorem drawActive_view (h : s.mode = .viewTwoArgFunction) : drawActive s = plot2 s := by
  unfold drawActive
  rw [h]

theorem drawActive_visualize (h : s.mode = .visualizeOneArgFunction) : drawActive s = plot1 s := by
  unfold drawActive
  rw [h]

/-! The dispatch. -/

theorem frameDispatch_visualiser (h : s.mode ≠ .testPattern) :
    frameDispatch held pressed s = frameBranch held pressed (frameScroll held pressed s) := by
  unfold frameDispatch
  cases hm : s.mode with
  | viewTwoArgFunction => rfl
  | visualizeOneArgFunction => rfl
  | testPattern => exact absurd hm h

theorem frameDispatch_pattern (h : s.mode = .testPattern) :
    frameDispatch held pressed s = framePattern (frameToggle pressed s) := by
  unfold frameDispatch
  rw [h]

theorem framePattern_checker (h : s.chk = true) : framePattern s = issue (checkerWrites s) s := by
  unfold framePattern
  rw [if_pos h, paintChecker_eq]

theorem framePattern_stripe (h : s.chk = false) : framePattern s = issue (stripeWrites s) s := by
  unfold framePattern
  rw [if_neg (by rw [h]; exact Bool.false_ne_true), paintStripe_eq]

theorem runFrame_eq :
    runFrame held pressed s = emitRotate (frameDispatch held pressed (frameAdvance pressed s)) := rfl

/-- What a branch of a frame, or the render of TestPattern, leaves: it changes tables, generator and framebuffer only,
and its framebuffer is the one before it with the writes it issued applied. -/
structure Paints (s t : State) : Prop where
  mode : t.mode = s.mode
  xoff : t.xoff = s.xoff
  yoff : t.yoff = s.yoff
  chk : t.chk = s.chk
  res : t.res = s.res
  strobe : t.strobe = s.strobe
  fb : ∃ ws, t.fbWrites = s.fbWrites ++ ws ∧ t.fb = applyWrites s.fb ws

theorem paints_issue (ws : List FbWrite) : Paints s (issue ws s) := ⟨rfl, rfl, rfl, rfl, rfl, rfl, ws, rfl, rfl⟩

theorem paints_issue_refillFt1 (ws : List FbWrite) : Paints s (issue ws (refillFt1 s)) :=
  ⟨refillFt1_mode s, refillFt1_xoff s, refillFt1_yoff s, refillFt1_chk s, refillFt1_res s, refillFt1_strobe s, ws,
    congrArg (· ++ ws) (refillFt1_fbWrites s), congrArg (applyWrites · ws) (refillFt1_fb s)⟩

theorem paints_issue_refillFt2 (ws : List FbWrite) : Paints s (issue ws (refillFt2 s)) :=
  ⟨refillFt2_mode s, refillFt2_xoff s, refillFt2_yoff s, refillFt2_chk s, refillFt2_res s, refillFt2_strobe s, ws,
    congrArg (· ++ ws) (refillFt2_fbWrites s), congrArg (applyWrites · ws) (refillFt2_fb s)⟩

theorem paints_frameBranch (hm : s.mode ≠ .testPattern) : Paints s (frameBranch held pressed s) := by
  cases h : triggered held pressed s.cfg.btnReset s.cfg.trigReset with
  | true => rw [frameBranch_reset held pressed s h]; exact paints_issue s _
  | false =>
    cases h' : triggered held pressed s.cfg.btnReseed s.cfg.trigReseed with
    | true =>
      rw [frameBranch_reseed held pressed s h h']
      cases hv : s.mode with
      | viewTwoArgFunction => rw [reseedActive_view s hv]; exact paints_issue_refillFt2 s _
      | visualizeOneArgFunction => rw [reseedActive_visualize s hv]; exact paints_issue_refillFt1 s _
      | testPattern => exact absurd hv hm
    | false =>
      rw [frameBranch_draw held pressed s h h']
      cases hv : s.mode with
      | viewTwoArgFunction => rw [drawActive_view s hv, plot2_eq]; exact paints_issue s _
      | visualizeOneArgFunction => rw [drawActive_visualize s hv, plot1_eq]; exact paints_issue s _
      | testPattern => exact absurd hv hm

theorem paints_framePattern : Paints s (framePattern s) := by
  cases h : s.chk with
  | true => rw [framePattern_checker s h]; exact paints_issue s _
  | false => rw [framePattern_stripe s h]; exact paints_issue s _

/-- A frame is the strobe after the pattern of the toggled state, or after the one branch of the scrolled state. -/
theorem runFrame_cases :
    ((frameAdvance pressed s).mode = .testPattern ∧
      runFrame held pressed s = emitRotate (framePattern (frameToggle pressed (frameAdvance pressed s)))) ∨
    ((frameAdvance pressed s).mode ≠ .testPattern ∧
      runFrame held pressed s =
        emitRotate (frameBranch held pressed (frameScroll held pressed (frameAdvance pressed s)))) := by
  by_cases h : (frameAdvance pressed s).mode = .testPattern
  · exact .inl ⟨h, by rw [runFrame_eq, frameDispatch_pattern held pressed _ h]⟩
  · exact .inr ⟨h, by rw [runFrame_eq, frameDispatch_visualiser held pressed _ h]⟩

end Sys2Proof.Machine
end

