-- ==== Sys2Proof/Laws/PerInstr.lean ====
section
/-! SUPPORT. The families of statements made per command: each command's word belongs to the row of its mnemonic
(spec 30_encoding.md R81, R84). -/
namespace Sys2Proof.Laws

/-- The word of the command belongs to a row of the opcode map that has the command's mnemonic. -/
def EncodesInRow.Statement (i : Instr) : Prop :=
  ∃ row ∈ opcodeTable, row.mnemonic = mnemonicOf i ∧ row.matches (encode i) = true

/-- A word with a row's opcode and with zeros where the row reserves bits belongs to the row. -/
theorem matches_of_fields {lo : Nat} (hlo : lo ≤ 24) (op : Byte) {row : OpcodeRow} {cw : Word}
    (hm : row.mask = BitVec.allOnes 32 <<< lo) (hv : row.value = op.setWidth 32 <<< 24) (ho : opField cw = op)
    (hr : cw.extractLsb' lo (24 - lo) = 0) : row.matches cw = true := by
  rw [OpcodeRow.matches, hm, hv, beq_iff_eq, masked_eq_iff hlo]
  exact ⟨ho, hr⟩

theorem EncodesInRow.nop : EncodesInRow.Statement .nop := by
  unfold EncodesInRow.Statement
  decide

theorem EncodesInRow.frame (held pressed : Byte) : EncodesInRow.Statement (.frame held pressed) :=
  ⟨⟨"FRAME", 0xFFFF0000, 0x01000000⟩, by decide, rfl,
    matches_of_fields (lo := 16) (by decide) 0x01 (by decide) (by decide) (opField_bytes ..) (byte2_bytes ..)⟩

theorem EncodesInRow.xltC2I (x y : Byte) : EncodesInRow.Statement (.xltC2I x y) :=
  ⟨⟨"XLT.C2I", 0xFFFF0000, 0x10000000⟩, by decide, rfl,
    matches_of_fields (lo := 16) (by decide) 0x10 (by decide) (by decide) (opField_bytes ..) (byte2_bytes ..)⟩

theorem EncodesInRow.xltI2C (idx : Index) : EncodesInRow.Statement (.xltI2C idx) :=
  ⟨⟨"XLT.I2C", 0xFFFF0000, 0x11000000⟩, by decide, rfl,
    matches_of_fields (lo := 16) (by decide) 0x11 (by decide) (by decide) (opField_index ..) (byte2_index ..)⟩

theorem EncodesInRow.lut1Rd (a : Byte) : EncodesInRow.Statement (.lut1Rd a) :=
  ⟨⟨"LUT1.RD", 0xFFFFFF00, 0x20000000⟩, by decide, rfl,
    matches_of_fields (lo := 8) (by decide) 0x20 (by decide) (by decide) (opField_mid ..) (midField_mid ..)⟩

theorem EncodesInRow.lut2Rd (r c : Byte) : EncodesInRow.Statement (.lut2Rd r c) :=
  ⟨⟨"LUT2.RD", 0xFFFF0000, 0x21000000⟩, by decide, rfl,
    matches_of_fields (lo := 16) (by decide) 0x21 (by decide) (by decide) (opField_bytes ..) (byte2_bytes ..)⟩

theorem EncodesInRow.lut1Wr (a v : Byte) : EncodesInRow.Statement (.lut1Wr a v) :=
  ⟨⟨"LUT1.WR", 0xFFFF0000, 0x22000000⟩, by decide, rfl,
    matches_of_fields (lo := 16) (by decide) 0x22 (by decide) (by decide) (opField_bytes ..) (byte2_bytes ..)⟩

theorem EncodesInRow.lut2Wr (r c v : Byte) : EncodesInRow.Statement (.lut2Wr r c v) :=
  ⟨⟨"LUT2.WR", 0xFF000000, 0x23000000⟩, by decide, rfl,
    matches_of_fields (lo := 24) (by decide) 0x23 (by decide) (by decide) (opField_bytes ..) (BitVec.eq_nil _)⟩

theorem EncodesInRow.rand1 : EncodesInRow.Statement .rand1 := by
  unfold EncodesInRow.Statement
  decide

theorem EncodesInRow.rand2 : EncodesInRow.Statement .rand2 := by
  unfold EncodesInRow.Statement
  decide

theorem EncodesInRow.fill (sel : ColourSel) : EncodesInRow.Statement (.fill sel) := by
  unfold EncodesInRow.Statement
  cases sel <;> decide

theorem EncodesInRow.patStripe : EncodesInRow.Statement .patStripe := by
  unfold EncodesInRow.Statement
  decide

theorem EncodesInRow.patChecker : EncodesInRow.Statement .patChecker := by
  unfold EncodesInRow.Statement
  decide

theorem EncodesInRow.drawFn1 : EncodesInRow.Statement .drawFn1 := by
  unfold EncodesInRow.Statement
  decide

theorem EncodesInRow.drawFn2 : EncodesInRow.Statement .drawFn2 := by
  unfold EncodesInRow.Statement
  decide

theorem EncodesInRow.modeAdv : EncodesInRow.Statement .modeAdv := by
  unfold EncodesInRow.Statement
  decide

theorem EncodesInRow.xoffInc : EncodesInRow.Statement .xoffInc := by
  unfold EncodesInRow.Statement
  decide

theorem EncodesInRow.xoffDec : EncodesInRow.Statement .xoffDec := by
  unfold EncodesInRow.Statement
  decide

theorem EncodesInRow.yoffInc : EncodesInRow.Statement .yoffInc := by
  unfold EncodesInRow.Statement
  decide

theorem EncodesInRow.yoffDec : EncodesInRow.Statement .yoffDec := by
  unfold EncodesInRow.Statement
  decide

theorem EncodesInRow.chkToggle : EncodesInRow.Statement .chkToggle := by
  unfold EncodesInRow.Statement
  decide

end Sys2Proof.Laws
end

