-- ==== Sys2Proof/Laws/Step.lean ====
section
/-! SUPPORT. What one step can do. -/
namespace Sys2Proof.Machine

@[simp] theorem andThen_next (s : State) (f : State → State) : andThen (.next s) f = .next (f s) := rfl

/-- The state an accepted word leaves, before it is completed. -/
def wordEffect (cw : Word) (s : State) : State :=
  match decode cw with
  | .ok i => effect i s
  | .error _ => raiseIllegal s

/-- An accepted word is performed or raises Illegal; it always completes. -/
theorem performWord_eq (cw : Word) (s : State) : performWord cw s = .next (wordEffect cw s) := by
  unfold performWord wordEffect
  cases decode cw with
  | ok i => exact exec_eq_effect i s
  | error e => rfl

theorem performWord_ok {cw : Word} {i : Instr} (h : decode cw = .ok i) (s : State) : performWord cw s = exec i s := by
  simp only [performWord, h]

theorem performWord_illegal {cw : Word} {e : IllegalWord} (h : decode cw = .error e) (s : State) :
    performWord cw s = .next (raiseIllegal s) := by
  simp only [performWord, h]

/-- The state an offered word leaves. -/
def offered (cw : Word) (during : List BusyEvent) (s : State) : State :=
  if cmdReady s then finish during (wordEffect cw (accept s)) else busyEvents during s

theorem offerWord_eq (cw : Word) (during : List BusyEvent) (s : State) :
    offerWord cw during s = .next (offered cw during s) := by
  unfold offerWord offered
  split
  · rw [performWord_eq, andThen_next]
  · rfl

/-- The state an aborted word and the reset leave. -/
def aborted (cw : Word) (during : List BusyEvent) (issued : Nat) (req : ResetRequest) (s : State) : State :=
  if cmdReady s then
    resetSequence req (cutShort during issued (wordEffect cw (accept s)) s)
  else hostReset req (busyEvents during s)

theorem abortWord_eq (cw : Word) (during : List BusyEvent) (issued : Nat) (req : ResetRequest) (s : State) :
    abortWord cw during issued req s = .next (aborted cw during issued req s) := by
  unfold abortWord aborted
  split
  · rw [performWord_eq, andThen_next]
  · rfl

/-- The state an input leaves. -/
def inputEffect (i : HostInput) (s : State) : State :=
  match i with
  | .command cw during => offered cw during s
  | .frame during => offered (encode (sampledFrame s)) during s
  | .host e => hostEvent e s
  | .reset during req => hostReset req (busyEvents during (underWay [] s))
  | .abort cw during issued req => aborted cw during issued req s

theorem takeInput_eq (i : HostInput) (s : State) : takeInput i s = .next (inputEffect i s) := by
  cases i with
  | command cw during => exact offerWord_eq cw during s
  | frame during => exact offerWord_eq _ during s
  | host e => rfl
  | reset during req => rfl
  | abort cw during issued req => exact abortWord_eq cw during issued req s

/-- With nothing pending a step changes nothing. -/
theorem step_idle {s : State} (h : s.inputs = []) : step s = .next s := by
  simp only [step, runNext, h]

/-- A step is the effect of the input at the head of the pending ones. -/
theorem step_input {s : State} {i : HostInput} {rest : List HostInput} (h : s.inputs = i :: rest) :
    step s = .next (inputEffect i (dropInput rest s)) := by
  simp only [step, runNext, h]
  exact takeInput_eq i _

/-- Everything a step that answers a next state can have done. -/
theorem step_cases {s t : State} (h : step s = .next t) :
    (s.inputs = [] ∧ t = s) ∨
      ∃ i rest, s.inputs = i :: rest ∧ t = inputEffect i (dropInput rest s) := by
  cases hi : s.inputs with
  | nil =>
    rw [step_idle hi] at h
    cases h
    exact .inl ⟨rfl, rfl⟩
  | cons i rest =>
    rw [step_input hi] at h
    cases h
    exact .inr ⟨i, rest, rfl, rfl⟩

/-- The platform's side of a step changes none of the core's registers. -/
structure KeepsCore (s t : State) : Prop where
  mode : t.mode = s.mode
  xoff : t.xoff = s.xoff
  yoff : t.yoff = s.yoff
  chk : t.chk = s.chk
  rng : t.rng = s.rng
  ft1 : t.ft1 = s.ft1
  ft2 : t.ft2 = s.ft2
  res : t.res = s.res
  errIllegal : t.errIllegal = s.errIllegal
  errConfig : t.errConfig = s.errConfig
  busy : t.busy = s.busy
  cfg : t.cfg = s.cfg
  fbWrites : t.fbWrites = s.fbWrites
  strobe : t.strobe = s.strobe
  inputs : t.inputs = s.inputs

theorem KeepsCore.refl (s : State) : KeepsCore s s :=
  ⟨rfl, rfl, rfl, rfl, rfl, rfl, rfl, rfl, rfl, rfl, rfl, rfl, rfl, rfl, rfl⟩

theorem KeepsCore.trans {s t u : State} (h : KeepsCore s t) (h' : KeepsCore t u) : KeepsCore s u :=
  ⟨h'.1.trans h.1, h'.2.trans h.2, h'.3.trans h.3, h'.4.trans h.4, h'.5.trans h.5, h'.6.trans h.6, h'.7.trans h.7,
    h'.8.trans h.8, h'.9.trans h.9, h'.10.trans h.10, h'.11.trans h.11, h'.12.trans h.12, h'.13.trans h.13,
    h'.14.trans h.14, h'.15.trans h.15⟩

/-- An action of the host or of the input device changes no register of the core (R267). -/
theorem keepsCore_hostEvent (e : HostEvent) (s : State) : KeepsCore s (hostEvent e s) := by
  cases e with
  | press b => constructor <;> rfl
  | release b => constructor <;> rfl
  | readRes => simp only [hostEvent, hostReadRes]; split <;> (constructor <;> rfl)
  | readStatus => simp only [hostEvent, hostReadStatus]; split <;> (constructor <;> rfl)
  | readCell i =>
    simp only [hostEvent, hostReadCell]
    split
    · constructor <;> rfl
    · split <;> (constructor <;> rfl)
  | writeCell i c => simp only [hostEvent, hostWriteCell]; split <;> (constructor <;> rfl)

theorem keepsCore_busyEvents (es : List BusyEvent) (s : State) : KeepsCore s (busyEvents es s) := by
  induction es generalizing s with
  | nil => exact KeepsCore.refl s
  | cons e es ih =>
    refine KeepsCore.trans ?_ (ih (busyEvent e s))
    cases e with
    | host e => exact keepsCore_hostEvent e s
    | command cw => exact KeepsCore.refl s

/-- Everything a reset leaves whatever the table fill: the registers of a new session. -/
structure ResetLeaves (req : ResetRequest) (s t : State) : Prop where
  mode : t.mode = .viewTwoArgFunction
  xoff : t.xoff = 0
  yoff : t.yoff = 0
  chk : t.chk = false
  res : t.res = 0
  errIllegal : t.errIllegal = false
  errConfig : t.errConfig = !portOk req.port
  busy : t.busy = false
  cfg : t.cfg = samplePort req.port
  fbWrites : t.fbWrites = []
  strobe : t.strobe = false
  fb : t.fb = s.fb
  latchNow : t.latchNow = s.latchNow
  latchPrev : t.latchPrev = s.latchPrev
  inputs : t.inputs = s.inputs
  hostData : t.hostData = s.hostData

theorem resetLeaves_resetSequence (req : ResetRequest) (s : State) : ResetLeaves req s (resetSequence req s) := by
  unfold resetSequence
  split
  · rename_i h
    unfold resetFill
    split <;> exact ⟨rfl, rfl, rfl, rfl, rfl, rfl, by rw [h]; rfl, rfl, rfl, rfl, rfl, rfl, rfl, rfl, rfl, rfl⟩
  · rename_i h
    exact ⟨rfl, rfl, rfl, rfl, rfl, rfl, by rw [Bool.eq_false_iff.2 h]; rfl, rfl, rfl, rfl, rfl, rfl, rfl, rfl, rfl, rfl⟩

theorem resetLeaves_hostReset (req : ResetRequest) (s : State) : ResetLeaves req (forgetCells s) (hostReset req s) :=
  resetLeaves_resetSequence req (forgetCells s)

end Sys2Proof.Machine
end

