-- ==== Sys2Proof/Laws/Translator.lean ====
section
/-! SUPPORT. Laws of the corner transform and of the packing of an index. -/
namespace Sys2Proof.Machine

@[simp] theorem uncorner_corner (v : Byte) : uncorner (corner v) = v := by
  revert v
  decide

@[simp] theorem corner_uncorner (b : Byte) : corner (uncorner b) = b := by
  revert b
  decide

@[simp] theorem flipRow_flipRow (b : Byte) : flipRow (flipRow b) = b := by
  revert b
  decide

theorem corner_eq_xor (v : Byte) : corner v = v ^^^ 0x80 := by
  revert v
  decide

theorem toNat_corner (v : Byte) : ((corner v).toNat : Int) = (s8 v + 128) % 256 := by
  revert v
  decide

theorem s8_uncorner (b : Byte) : s8 (uncorner b) = s8 (u8 ((b.toNat - 128) % 256)) := by
  revert b
  decide

@[simp] theorem u8_s8 (b : Byte) : u8 (s8 b) = b := by
  simp [u8, s8]

theorem s8_u8 {v : Int} (h : -128 ≤ v) (h' : v ≤ 127) : s8 (u8 v) = v := by
  unfold s8 u8
  rw [BitVec.toInt_ofInt]
  exact Int.bmod_eq_of_le (by omega) (by omega)

/-- The low byte of a packed index. -/
theorem lowByte_append (r c : Byte) : (r ++ c : Index).extractLsb' 0 8 = c := by
  apply BitVec.eq_of_getLsbD_eq
  intro k hk
  rw [BitVec.getLsbD_extractLsb', BitVec.getLsbD_append]
  simp only [Nat.zero_add, hk, if_true, decide_true, Bool.true_and]

/-- The high byte of a packed index. -/
theorem highByte_append (r c : Byte) : (r ++ c : Index).extractLsb' 8 8 = r := by
  apply BitVec.eq_of_getLsbD_eq
  intro k hk
  rw [BitVec.getLsbD_extractLsb', BitVec.getLsbD_append]
  simp only [hk, show ¬ 8 + k < 8 by omega, if_false, decide_true, Bool.true_and, Nat.add_sub_cancel_left]

theorem toNat_append_bytes (r c : Byte) : (r ++ c : Index).toNat = r.toNat * 256 + c.toNat := by
  rw [BitVec.toNat_append, Nat.shiftLeft_eq, Nat.mul_comm, Nat.two_pow_add_eq_or_of_lt c.isLt]

end Sys2Proof.Machine
end

