-- ==== Sys2Proof/Tests/Slice0.lean ====
section
/-! SUPPORT. Tests, with expected results from the spec's encoding examples and vectors (30_encoding.md section 4,
95_test_vectors.md), and for each statement with hypotheses a witness that meets them. -/
namespace Sys2Proof.Machine

/-! A small session: P = 2, PALETTE = [A, B], default bindings, tables zero (95_test_vectors.md conventions). -/

def colourA : Colour := 0xA
def colourB : Colour := 0xB

def testConfig : SessionConfig where
  palette := [colourA, colourB]
  colourBg := 1
  colourFg := 2
  colourReset := 3
  colourReseed := 4

def tiny : State where
  mode := .viewTwoArgFunction
  xoff := 0
  yoff := 0
  chk := false
  rng := ⟨7⟩
  ft1 := []
  ft2 := []
  res := 0
  errIllegal := false
  errConfig := false
  busy := false
  cfg := testConfig
  fbWrites := []
  strobe := false
  fb := []
  latchNow := 0
  latchPrev := 0
  inputs := []
  hostData := 0
  choices := 0

/-- The state a command leaves. -/
def after (i : Instr) (s : State) : State :=
  match exec i s with
  | .next t => t
  | .fault _ => s
  | .refused _ => s

def testSeed : Seed := Vector.replicate 16 0

def goodPort : ConfigPort := portOf testConfig

/-- The port, with a table fill of its own. -/
def portFilling (f : TableFill) : ConfigPort := { goodPort with resetTableFill := some f }

/-! Source lines that do not assemble: one for each check of `Source.wellFormed` (R86, R87). -/

theorem test_illFormed_c2i_x : (Source.xltC2I 128 0).wellFormed = false := by decide
theorem test_illFormed_c2i_y : (Source.xltC2I 0 (-129)).wellFormed = false := by decide
theorem test_illFormed_i2c : (Source.xltI2C 65536).wellFormed = false := by decide
theorem test_illFormed_lut1Rd : (Source.lut1Rd (-1)).wellFormed = false := by decide
theorem test_illFormed_lut2Rd_r : (Source.lut2Rd 256 0).wellFormed = false := by decide
theorem test_illFormed_lut2Rd_c : (Source.lut2Rd 0 256).wellFormed = false := by decide
theorem test_illFormed_lut1Wr_a : (Source.lut1Wr 256 0).wellFormed = false := by decide
theorem test_illFormed_lut1Wr_v : (Source.lut1Wr 0 (-129)).wellFormed = false := by decide
theorem test_illFormed_lut2Wr_r : (Source.lut2Wr 256 0 0).wellFormed = false := by decide
theorem test_illFormed_lut2Wr_c : (Source.lut2Wr 0 (-1) 0).wellFormed = false := by decide
theorem test_illFormed_lut2Wr_v : (Source.lut2Wr 0 0 256).wellFormed = false := by decide
theorem test_illFormed_eval1 : (Source.eval1 128).wellFormed = false := by decide
theorem test_illFormed_eval2 : (Source.eval2 0 128).wellFormed = false := by decide
theorem test_illFormed_load_length : (Source.lut1Load [0]).wellFormed = false := by decide
theorem test_illFormed_load_value : (Source.lut1Load (List.replicate 255 0 ++ [256])).wellFormed = false := by
  decide +kernel
theorem test_illFormed_scrollX : (Source.scrollX 256).wellFormed = false := by decide
theorem test_illFormed_scrollY : (Source.scrollY (-256)).wellFormed = false := by decide
theorem test_illFormed_pattern : Source.pattern.wellFormed = false := by decide

/-! Configurations that fail the check, one for each item (R252). -/

theorem test_port_ok : portOk goodPort = true := by decide
theorem test_port_a_short : portOk { goodPort with fbCells := 65535 } = false := by decide
theorem test_port_a_long : portOk { goodPort with fbCells := 65537 } = false := by decide
theorem test_port_b : portOk { goodPort with palette := [] } = false := by decide
theorem test_port_c : portOk { goodPort with btnReset := .face1 } = false := by decide
theorem test_port_d : portOk { goodPort with colourReseed := 3 } = false := by decide
theorem test_port_e_trigReset : portOk { goodPort with trigReset := none } = false := by decide
theorem test_port_e_trigReseed : portOk { goodPort with trigReseed := none } = false := by decide
theorem test_port_e_offset : portOk { goodPort with patternOffsetSrc := none } = false := by decide
theorem test_port_e_sign : portOk { goodPort with dirSign := none } = false := by decide
theorem test_port_e_fill : portOk { goodPort with resetTableFill := none } = false := by decide

/-! Decoding: a word of each row, its fields written out from the row's format (R71 to R81) and the examples of
30_encoding.md section 4, 40_translator.md, 41_lookup.md. -/

theorem test_decode_nop : decode 0x00000000 = .ok .nop := by decide
theorem test_decode_frame : decode 0x01004100 = .ok (.frame (buttonVector [.dir .up, .face .face2]) 0) := by decide
theorem test_decode_xltC2I : decode 0x1000807F = .ok (.xltC2I (u8 (-128)) (u8 127)) := by decide
theorem test_decode_xltI2C : decode 0x11001234 = .ok (.xltI2C 0x1234) := by decide
theorem test_decode_lut1Rd : decode 0x200000FF = .ok (.lut1Rd 0xFF) := by decide
theorem test_decode_lut2Rd : decode 0x210003C8 = .ok (.lut2Rd 3 200) := by decide
theorem test_decode_lut1Wr : decode 0x220005FE = .ok (.lut1Wr 5 (u8 (-2))) := by decide
theorem test_decode_lut2Wr : decode 0x23010203 = .ok (.lut2Wr 1 2 3) := by decide
theorem test_decode_rand1 : decode 0x24000000 = .ok .rand1 := by decide
theorem test_decode_rand2 : decode 0x25000000 = .ok .rand2 := by decide
theorem test_decode_fill_bg : decode 0x30000000 = .ok (.fill .bg) := by decide
theorem test_decode_fill_reset : decode 0x30000002 = .ok (.fill .reset) := by decide
theorem test_decode_patStripe : decode 0x31000000 = .ok .patStripe := by decide
theorem test_decode_patChecker : decode 0x32000000 = .ok .patChecker := by decide
theorem test_decode_drawFn1 : decode 0x33000000 = .ok .drawFn1 := by decide
theorem test_decode_drawFn2 : decode 0x34000000 = .ok .drawFn2 := by decide
theorem test_decode_modeAdv : decode 0x40000000 = .ok .modeAdv := by decide
theorem test_decode_xoffInc : decode 0x41000000 = .ok .xoffInc := by decide
theorem test_decode_xoffDec : decode 0x42000000 = .ok .xoffDec := by decide
theorem test_decode_yoffInc : decode 0x43000000 = .ok .yoffInc := by decide
theorem test_decode_yoffDec : decode 0x44000000 = .ok .yoffDec := by decide
theorem test_decode_chkToggle : decode 0x45000000 = .ok .chkToggle := by decide
theorem test_decode_reserved_N : decode 0x31000001 = .error .reservedBit := by decide
theorem test_decode_reserved_S : decode 0x30000004 = .error .reservedBit := by decide
theorem test_decode_reserved_A : decode 0x20000100 = .error .reservedBit := by decide
theorem test_decode_reserved_B : decode 0x01010000 = .error .reservedBit := by decide
theorem test_decode_unassigned : decode 0xFF000000 = .error .unassignedOp := by decide
theorem test_decode_tableWord : decodeTableWord 32 0x23FFFFFF = some (.lut2Wr 0xFF 0xFF 0xFF) := by decide

/-! The commands. -/

theorem test_nop : exec .nop tiny = .next tiny := rfl

/-- V-XLT-1. -/
theorem test_xltC2I_max : (after (.xltC2I 0x7F 0x7F) tiny).res = 0x000001FF := by decide
theorem test_xltC2I_mixed : (after (.xltC2I 0x64 0x9C) tiny).res = 0x0000E4E4 := by decide

/-- V-XLT-2. -/
theorem test_xltI2C_low : (after (.xltI2C 0x00FF) tiny).res = 0x00007F80 := by decide
theorem test_xltI2C_mixed : (after (.xltI2C 0xABCD) tiny).res = 0x00004DD5 := by decide

/-- V-LUT-1, V-LUT-6. -/
theorem test_lut1Rd : (after (.lut1Rd 0xFF) { tiny with ft1 := [(0xFF, 5)] }).res = 0x00000005 := by decide
theorem test_lut1Rd_min : (after (.lut1Rd 0x80) { tiny with ft1 := [(0x80, 0x7F)] }).res = 0x0000007F := by decide

/-- V-LUT-3, V-LUT-4. -/
theorem test_lut2Rd : (after (.lut2Rd 3 200) { tiny with ft2 := [(968, 0x9C)] }).res = 0x0000009C := by decide
theorem test_lut2Rd_swapped : (after (.lut2Rd 2 1) { tiny with ft2 := [(258, 3)] }).res = 0 := by decide

/-- V-LUT-2, V-LUT-7. -/
theorem test_lut1Wr : f1 (after (.lut1Wr 5 0xFE) tiny) 5 = -2 := by decide
theorem test_lut1Wr_res : (after (.lut1Wr 0 0) { tiny with res := 0x1234 }).res = 0x00001234 := by decide

/-- V-LUT-5, V-EXC-4. -/
theorem test_lut2Wr : f2 (after (.lut2Wr 255 255 0x80) tiny) (-1) (-1) = -128 := by decide
theorem test_lut2Wr_last : readFt2 (after (.lut2Wr 255 255 0xFF) tiny) 255 255 = 0xFF := by decide

/-- V-LUT-8, V-LUT-9: the other table is unchanged. -/
theorem test_rand1 : (after .rand1 { tiny with ft2 := [(1, 9)] }).ft2 = [(1, 9)] := rfl
theorem test_rand2 : (after .rand2 { tiny with ft1 := [(1, 9)] }).ft1 = [(1, 9)] := rfl

/-- What one cell holds after a command that paints each cell once. -/
theorem readFb_painted {t : State} {f : Index → Colour}
    (h : t.fb = applyWrites tiny.fb (planeIndices.map fun i => (i, f i))) (i : Index) : readFb t i = some (f i) := by
  rw [readFb, h, lookup_applyWrites_plane]

/-- V-FILL-1. -/
theorem test_fill : readFb (after (.fill .reseed) tiny) 0xFFFF = some 4 :=
  (readFb_painted rfl _).trans rfl

/-- The pattern vectors: P = 2, off = 0. -/
theorem test_patStripe : readFb (after .patStripe tiny) 257 = some colourB :=
  (readFb_painted rfl _).trans (by decide)
theorem test_patChecker : readFb (after .patChecker tiny) 257 = some colourA :=
  (readFb_painted rfl _).trans (by decide)

/-- P = 4, XOFF = 255: cell 257 of PAT.CHECKER is B. -/
theorem test_patChecker_offset :
    readFb (after .patChecker { tiny with xoff := 255, cfg := { testConfig with palette := [0xA, 0xB, 0xC, 0xD] } }) 257
      = some 0xB :=
  (readFb_painted rfl _).trans (by decide)

/-- V-FN1-2: tables zero, the row 128. -/
theorem test_drawFn1_first : (plot1Writes tiny)[0]? = some (0x8000, 2) := by decide +kernel
theorem test_drawFn1_last : (plot1Writes tiny)[255]? = some (0x80FF, 2) := by decide +kernel

/-- V-FN2-1: tables zero, one cell. V-FN2-4: row 4 constant 0x80 at column 0x80, XOFF = 4. -/
theorem test_drawFn2 : (0x8080, 2) ∈ plot2Writes tiny := List.mem_map.2 ⟨0, mem_planeIndices 0, by decide⟩
theorem test_drawFn2_row : (0x8000, 2) ∈ plot2Writes { tiny with ft2 := [(1152, 0x80)], xoff := 4 } :=
  List.mem_map.2 ⟨0, mem_planeIndices 0, by decide⟩

/-- V-FSM-1, V-FSM-2. -/
theorem test_modeAdv : statusWord (after .modeAdv tiny) = 0x00000001 := by decide
theorem test_modeAdv_wrap : (after .modeAdv { tiny with mode := .testPattern }).mode = .viewTwoArgFunction := by decide

/-- V-FSM-6 to V-FSM-9. -/
theorem test_xoffInc_wrap : (after .xoffInc { tiny with xoff := 255 }).xoff = 0 := by decide
theorem test_xoffDec_wrap : statusWord (after .xoffDec tiny) = 0x0000FF00 := by decide
theorem test_yoffInc_wrap : (after .yoffInc { tiny with yoff := 255 }).yoff = 0 := by decide
theorem test_yoffDec_wrap : statusWord (after .yoffDec tiny) = 0x00FF0000 := by decide

/-- R206. -/
theorem test_chkToggle : statusWord (after .chkToggle tiny) = 0x00000004 := by decide

/-- F25: advance first, so UP toggles CHK. -/
theorem test_frame_advance_first :
    statusWord (after (.frame 0x81 0x81) { tiny with mode := .visualizeOneArgFunction, xoff := 3, yoff := 3 })
      = 0x00030306 := by decide

/-- F10: opposite directions cancel. F11 in reverse: one LEFT step below 0. -/
theorem test_frame_scroll : statusWord (after (.frame 0x04 0x04) tiny) = 0x0000FF00 := by decide

/-! Steps, errors, reset and the platform. -/

/-- V-EXC-1: STATUS after an illegal word; a legal word still executes after it. -/
theorem test_illegal_word : ∃ t, step (tiny.withFetchWord 32 0xFF000000) = .next t ∧ statusWord t = 0x00000010 :=
  ⟨_, rfl, by decide⟩

theorem test_after_illegal :
    ∃ t, step ({ tiny with errIllegal := true }.withFetchWord 32 0x41000000) = .next t ∧ statusWord t = 0x00000110 :=
  ⟨_, rfl, by decide⟩

/-- V-EXC-2: BTN_RESET = BTN_RESEED. -/
theorem test_config_error :
    statusWord (hostReset ⟨testSeed, { goodPort with btnReset := .face1 }⟩ tiny) = 0x00000020 := by decide

/-- V-RST-1. -/
theorem test_reset_status : statusWord (hostReset ⟨testSeed, goodPort⟩ { tiny with xoff := 9, chk := true }) = 0 := by
  decide

/-- V-RST-1 after an earlier session: every cell is unwritten. -/
theorem test_reset_forgets_cells (i : Index) :
    readFb (hostReset ⟨testSeed, goodPort⟩ { tiny with fb := [(0, 5)] }) i = none := by
  unfold readFb
  rw [(resetLeaves_hostReset _ _).fb]
  rfl

/-- V-LAT-2: a repeated press re-arms the edge. -/
theorem test_latch_repeat :
    latchPressed (pressButton (.dir .up) (rotateLatch (pressButton (.dir .up) tiny))) = 0x01 := by decide

/-- V-LAT-1, V-LAT-4. -/
theorem test_latch_held : latchPressed (rotateLatch (pressButton (.face .face3) tiny)) = 0 := by decide
theorem test_latch_missed : latchPressed (releaseButton (.dir .left) (pressButton (.dir .left) tiny)) = 0 := by decide

/-! The assembler (R86, R87; 30_encoding.md section 4). -/

theorem test_assemble_value : assembleLine "LUT1.WR 5, -2 ; f(5)".toList = some [.lut1Wr 5 0xFE] := by decide +kernel
theorem test_assemble_hex : assembleLine "XLT.I2C 0x8080".toList = some [.xltI2C 0x8080] := by decide +kernel
theorem test_assemble_set :
    assembleLine ("FRAME ".toList ++ [openBrace] ++ "UP, FACE2".toList ++ [closeBrace, ',', openBrace, closeBrace])
      = some [.frame 0x41 0x00] := by decide +kernel
theorem test_assemble_pattern : assembleLine "PATTERN".toList = none := by decide +kernel

/-! Witnesses: for each statement with hypotheses, a state and operands that meet them. -/

/-- `tiny` with one pending action. -/
def pending (i : HostInput) (s : State) : State := { s with inputs := [i] }

/-- `tiny` after a failed configuration check. -/
def stuckState : State := { tiny with errConfig := true }

/-- `tiny` in TestPattern. -/
def patternState : State := { tiny with mode := .testPattern }

theorem witness_EncodeOfDecode : decode 0x30000003 = .ok (.fill .reseed) := by decide

/-- The lowest and the highest word of a row with operands, a word outside it, for `EncodedAs`. -/
theorem witness_EncodedAs_low : (0x10000000 : Word) &&& 0xFFFF0000 = 0x10000000 := by decide
theorem witness_EncodedAs_high : (0x1000FFFF : Word) &&& 0xFFFF0000 = 0x10000000 := by decide
theorem witness_EncodedAs_outside :
    opField 0x10010000 = opField 0x10000000 ∧ (0x10010000 : Word) &&& 0xFFFF0000 ≠ 0x10000000 := by decide

theorem witness_IllegalWordOnlySetsErrIllegal :
    opField 0x23FFFFFF = 0x23 ∧ cmdReady (pending (.command 0x40000001 []) tiny) = true ∧
      (pending (.command 0x40000001 []) tiny).inputs = .command 0x40000001 [] :: [] ∧
      decode 0x40000001 = .error .reservedBit := by decide

theorem witness_StepRunsDecodedCommand :
    (pending (.command 0x40000000 [.host .readRes]) tiny).busy = false ∧
      (pending (.command 0x40000000 [.host .readRes]) tiny).errConfig = false ∧
      (pending (.command 0x40000000 [.host .readRes]) tiny).inputs = .command 0x40000000 [.host .readRes] :: [] ∧
      decode 0x40000000 = .ok .modeAdv ∧
      ∃ t, exec .modeAdv { tiny with inputs := [], busy := true, fbWrites := [], strobe := false } = .next t :=
  ⟨rfl, rfl, rfl, by decide, _, rfl⟩

theorem witness_WordIgnoredWhileNotReady :
    cmdReady (pending (.command 0 [.host .readRes]) stuckState) = false ∧
      (pending (.command 0 [.host .readRes]) stuckState).inputs = .command 0 [.host .readRes] :: [] := by decide

/-- The other way not to be ready. -/
theorem witness_WordIgnoredWhileBusy : cmdReady { tiny with busy := true } = false := by decide

theorem witness_ErrIllegalIsSticky_set :
    cmdReady (pending (.command 0xFF000000 []) tiny) = true ∧
      (pending (.command 0xFF000000 []) tiny).inputs = .command 0xFF000000 [] :: [] ∧
      decode 0xFF000000 = .error .unassignedOp ∧ ∃ t, step (pending (.command 0xFF000000 []) tiny) = .next t :=
  ⟨rfl, rfl, by decide, _, rfl⟩

theorem witness_ErrIllegalIsSticky_kept :
    { tiny with errIllegal := true }.errIllegal = true ∧ resetsNext { tiny with errIllegal := true } = false ∧
      ∃ t, step { tiny with errIllegal := true } = .next t := ⟨rfl, rfl, _, rfl⟩

theorem witness_FailedConfigurationIsStuck :
    portOk { goodPort with palette := [] } = false ∧ stuckState.errConfig = true ∧ resetsNext stuckState = false ∧
      ∃ t, step stuckState = .next t := ⟨by decide, rfl, rfl, _, rfl⟩

theorem witness_ConfigurationConstantInSession :
    (∃ t, step (pending (.command 0x40000000 []) tiny) = .next t) ∧
      resetsNext (pending (.command 0x40000000 []) tiny) = false := ⟨⟨_, rfl⟩, rfl⟩

theorem witness_StatusLayout :
    (∃ t, exec .modeAdv tiny = .next t ∧ t.mode ≠ tiny.mode) ∧ (∀ held pressed, Instr.modeAdv ≠ .frame held pressed) ∧
      (∃ t, exec .chkToggle tiny = .next t ∧ t.chk ≠ tiny.chk) ∧
      (∃ t, exec .xoffInc tiny = .next t ∧ t.xoff ≠ tiny.xoff) ∧
      ∃ t, exec .yoffDec tiny = .next t ∧ t.yoff ≠ tiny.yoff :=
  ⟨⟨_, rfl, by decide⟩, nofun, ⟨_, rfl, by decide⟩, ⟨_, rfl, by decide⟩, _, rfl, by decide⟩

theorem witness_ResWrittenByFourCommands_written :
    (∃ t, exec (.xltC2I 5 3) tiny = .next t) ∧ (∃ t, exec (.xltI2C 7) tiny = .next t) ∧
      (∃ t, exec (.lut1Rd 5) tiny = .next t) ∧ ∃ t, exec (.lut2Rd 5 6) tiny = .next t :=
  ⟨⟨_, rfl⟩, ⟨_, rfl⟩, ⟨_, rfl⟩, _, rfl⟩

theorem witness_ResWrittenByFourCommands :
    (∃ t, exec .modeAdv tiny = .next t) ∧ (∀ x y, Instr.modeAdv ≠ .xltC2I x y) ∧ (∀ idx, Instr.modeAdv ≠ .xltI2C idx) ∧
      (∀ a, Instr.modeAdv ≠ .lut1Rd a) ∧ (∀ r c, Instr.modeAdv ≠ .lut2Rd r c) ∧ tiny.busy = false :=
  ⟨⟨_, rfl⟩, nofun, nofun, nofun, nofun, rfl⟩

theorem witness_ModeOnlyAdvances : ∃ t, exec (.frame 0x80 0x80) patternState = .next t := ⟨_, rfl⟩

theorem witness_OnlyRandomisationDraws :
    (∃ t, exec .modeAdv tiny = .next t) ∧ Instr.modeAdv ≠ .rand1 ∧ Instr.modeAdv ≠ .rand2 ∧
      (∀ held pressed, Instr.modeAdv ≠ .frame held pressed) ∧ (∃ t, exec .rand1 tiny = .next t) ∧
      (∃ t, exec .rand2 tiny = .next t) ∧ ∃ t, exec (.frame 0x20 0x20) tiny = .next t :=
  ⟨⟨_, rfl⟩, nofun, nofun, nofun, ⟨_, rfl⟩, ⟨_, rfl⟩, _, rfl⟩

theorem witness_OnlyFrameEmitsStrobe : tiny.strobe = false ∧ ∃ t, exec (.frame 0 0) tiny = .next t := ⟨rfl, _, rfl⟩

theorem witness_LastWriteToCellWins : ∃ t, exec (.fill .bg) tiny = .next t := ⟨_, rfl⟩

theorem witness_CommandsNeverReadLatch : ∃ t, exec (.frame 0x08 0x08) tiny = .next t := ⟨_, rfl⟩

theorem witness_tiny_inv : Inv tiny := ⟨by decide, by decide, by decide, fun _ => by decide, nofun, rfl⟩

theorem witness_stuck_inv : Inv stuckState :=
  ⟨by decide, by decide, by decide, nofun, fun _ => by decide, rfl⟩

theorem witness_StepKeepsInv : Inv tiny ∧ ∃ t, step tiny = .next t := ⟨witness_tiny_inv, _, rfl⟩

theorem witness_ResetSequence_fill :
    portOk (portFilling .fillFt1ThenFt2) = true ∧
      (portFilling .fillFt1ThenFt2).resetTableFill = some .fillFt1ThenFt2 := by decide
theorem witness_ResetSequence_unspecified :
    portOk (portFilling .unspecified) = true ∧ (portFilling .unspecified).resetTableFill = some .unspecified := by
  decide
theorem witness_ResetSequence_failed : portOk { goodPort with dirSign := none } = false := by decide

theorem witness_ResetSequence_step :
    (pending (.reset [.host (.press (.dir .up))] ⟨testSeed, goodPort⟩) tiny).inputs =
      .reset [.host (.press (.dir .up))] ⟨testSeed, goodPort⟩ :: [] := rfl

theorem witness_ResetAbortsCommand :
    cmdReady (pending (.abort 0x34000000 [.host (.press (.dir .up))] 5 ⟨testSeed, goodPort⟩) tiny) = true ∧
      (pending (.abort 0x34000000 [.host (.press (.dir .up))] 5 ⟨testSeed, goodPort⟩) tiny).inputs =
        .abort 0x34000000 [.host (.press (.dir .up))] 5 ⟨testSeed, goodPort⟩ :: [] ∧ decode 0x34000000 = .ok .drawFn2 ∧
      (∃ t, exec .drawFn2 { tiny with inputs := [], busy := true, fbWrites := [], strobe := false } = .next t) ∧
      ∃ u, step (pending (.abort 0x34000000 [.host (.press (.dir .up))] 5 ⟨testSeed, goodPort⟩) tiny) = .next u :=
  ⟨rfl, rfl, by decide, ⟨_, rfl⟩, _, rfl⟩

/-- Where the two cases of the latch meet: a frame cut short after its last write, and after its strobe. -/
theorem witness_ResetAbortsCommand_frame :
    ∃ t, exec (.frame 0 0) { tiny with inputs := [], busy := true, fbWrites := [], strobe := false } = .next t ∧
      t.strobe = true ∧ decode 0x01000000 = .ok (.frame 0 0) ∧
      ∀ n, n = t.fbWrites.length ∨ n = t.fbWrites.length + 1 → cmdReady (pending (.abort 0x01000000 [] n ⟨testSeed, goodPort⟩) tiny) = true ∧
        (pending (.abort 0x01000000 [] n ⟨testSeed, goodPort⟩) tiny).inputs =
          .abort 0x01000000 [] n ⟨testSeed, goodPort⟩ :: [] ∧
        ∃ u, step (pending (.abort 0x01000000 [] n ⟨testSeed, goodPort⟩) tiny) = .next u :=
  ⟨_, rfl, rfl, by decide, fun _ _ => ⟨rfl, rfl, _, rfl⟩⟩

theorem witness_TranslatorIsBijection : toIndex (u8 (-128)) 127 = toIndex (u8 (-128)) 127 := rfl

/-- Row 0, row 1, row 255. -/
theorem witness_TranslatorGeometry :
    (0x0000 : Index).toNat / 256 = 0 ∧ (0x0100 : Index).toNat / 256 ≠ 0 ∧ (0xFFFF : Index).toNat / 256 ≠ 0 := by decide

theorem witness_Lut1RdResult : u8 (-128) = 0x80 ∧ u8 127 = 0x7F := by decide
theorem witness_Lut2RdResult : u8 (-1) = 0xFF ∧ u8 0 = 0x00 ∧ (0 : Byte) ≠ 255 := by decide
theorem witness_Lut1WrWritesOneEntry : (0 : Nat) ≠ (255 : Byte).toNat ∧ ∃ t, exec (.lut1Wr 5 0xFE) tiny = .next t :=
  ⟨by decide, _, rfl⟩
theorem witness_Lut2WrWritesOneEntry :
    ((0 : Byte), (255 : Byte)) ≠ (255, 0) ∧ (65535 : Nat) ≠ (0 : Byte).toNat * 256 + (255 : Byte).toNat := by decide
theorem witness_Rand1Fills256Draws : 256 ≤ 256 := by decide
theorem witness_Rand2Fills65536Draws : 65536 ≤ 65536 := by decide

theorem witness_RandomisationIsReproducible :
    SameTables tiny { tiny with xoff := 9 } ∧ (∃ t, runInstrs [.rand1, .lut1Wr 0 1] tiny = .next t) ∧
      (∃ t, runInstrs [.rand1, .lut1Wr 0 1] { tiny with xoff := 9 } = .next t) ∧ Inv tiny ∧ Inv stuckState ∧
      portOk (portFilling .fillFt1ThenFt2) = true ∧
      (portFilling .fillFt1ThenFt2).resetTableFill = some .fillFt1ThenFt2 :=
  ⟨⟨rfl, rfl, rfl, rfl, rfl⟩, ⟨_, rfl⟩, ⟨_, rfl⟩, witness_tiny_inv, witness_stuck_inv, by decide, by decide⟩

theorem witness_PatStripePaintsStripes :
    (1 : Nat) = (match { tiny with xoff := 3 }.cfg.patternOffsetSrc with | .xoff => (3 : Byte) | .yoff => 0).toNat %
      testConfig.palette.length ∧ 0 < testConfig.palette.length := by decide

theorem witness_PatCheckerPaintsCheckerboard :
    (1 : Nat) = (255 : Byte).toNat % testConfig.palette.length ∧ 0 < testConfig.palette.length := by decide

/-- Each selector value. -/
theorem witness_FillPaintsOneColour :
    ∀ v : BitVec 2, ∃ c, [testConfig.colourBg, testConfig.colourFg, testConfig.colourReset,
      testConfig.colourReseed][v.toNat]? = some c := by
  intro v
  have h : v.toNat < 4 := v.isLt
  exact ⟨_, List.getElem?_eq_getElem (by simpa using h)⟩

theorem witness_DrawFn1Paints256Cells : ∃ t, exec .drawFn1 tiny = .next t := ⟨_, rfl⟩
theorem witness_DrawFn2ImageIsProduct : ∃ t, exec .drawFn2 tiny = .next t := ⟨_, rfl⟩

theorem witness_PaintingLeavesNoCellUnwritten :
    (∃ t, exec (.fill .fg) tiny = .next t) ∧ (∃ t, exec .drawFn1 tiny = .next t) ∧
      (∃ t, exec .drawFn2 tiny = .next t) ∧ (∃ t, exec .patStripe tiny = .next t) ∧
      (∃ t, exec .patChecker tiny = .next t) ∧ ∃ sel, Instr.fill .fg = .fill sel :=
  ⟨⟨_, rfl⟩, ⟨_, rfl⟩, ⟨_, rfl⟩, ⟨_, rfl⟩, ⟨_, rfl⟩, _, rfl⟩

theorem witness_FramePerformsItsPlan :
    tiny.mode = .viewTwoArgFunction ∧ tiny.cfg.btnReset = .face0 ∧ tiny.cfg.btnReseed = .face1 ∧
      tiny.cfg.btnModifier = .face2 ∧ tiny.cfg.btnAdvance = .face3 := by decide

theorem witness_FrameAdvancesAndScrolls :
    (∃ t, exec (.frame 0x08 0x08) tiny = .next t ∧ t.mode ≠ .testPattern) ∧ tiny.cfg.dirSign = {} ∧
      ∃ t, exec (.frame 0x08 0x08) patternState = .next t ∧ t.mode = .testPattern :=
  ⟨⟨_, rfl, by decide⟩, rfl, _, rfl, by decide⟩

theorem witness_FrameTogglesAndPaintsPattern :
    frameMode 0x01 patternState = .testPattern ∧ (∀ d, isSet 0x31 (.dir d) = isSet 0x01 (.dir d)) ∧
      isSet 0x31 (.face .face3) = isSet 0x01 (.face .face3) :=
  ⟨by decide, fun d => by cases d <;> decide, by decide⟩

theorem witness_FrameRunsOneBranch_reset :
    (∃ t, exec (.frame 0x10 0) tiny = .next t) ∧ frameMode 0 tiny ≠ .testPattern ∧
      triggered 0x10 0 .face0 .level = true := ⟨⟨_, rfl⟩, by decide, by decide⟩
theorem witness_FrameRunsOneBranch_reseed :
    (∃ t, exec (.frame 0x20 0x20) tiny = .next t) ∧ frameMode 0x20 tiny = .viewTwoArgFunction ∧
      triggered 0x20 0x20 .face0 .level = false ∧ triggered 0x20 0x20 .face1 .edge = true :=
  ⟨⟨_, rfl⟩, by decide, by decide, by decide⟩
theorem witness_FrameRunsOneBranch_reseed_one :
    frameMode 0x20 { tiny with mode := .visualizeOneArgFunction } = .visualizeOneArgFunction := by decide
theorem witness_FrameRunsOneBranch_draw :
    (∃ t, exec (.frame 0x20 0) tiny = .next t) ∧ frameMode 0 tiny ≠ .testPattern ∧
      triggered 0x20 0 .face0 .level = false ∧ triggered 0x20 0 .face1 .edge = false :=
  ⟨⟨_, rfl⟩, by decide, by decide, by decide⟩

theorem witness_FrameWritesEveryCell : ∃ t, exec (.frame 0 0) patternState = .next t := ⟨_, rfl⟩
theorem witness_FrameLeavesRestUnchanged : ∃ t, exec (.frame 0xFF 0xFF) tiny = .next t := ⟨_, rfl⟩

theorem witness_LatchContract : { tiny with strobe := true }.strobe = true := rfl

theorem witness_SampledFrameRotatesLatch :
    cmdReady (pending (.frame [.host (.press (.dir .up))]) tiny) = true ∧
      (pending (.frame [.host (.press (.dir .up))]) tiny).inputs = .frame [.host (.press (.dir .up))] :: [] ∧
      ∃ u, step (pending (.frame [.host (.press (.dir .up))]) tiny) = .next u := ⟨rfl, rfl, _, rfl⟩

/-- No edge before, no press, a release meanwhile. -/
theorem witness_SampledFrameRotatesLatch_later :
    (∀ b, isSet (latchPressed (pending (.command 0 [.host (.release (.dir .up))]) tiny)) b = false) ∧
      pressesNext (pending (.command 0 [.host (.release (.dir .up))]) tiny) = false ∧
      ∃ u, step (pending (.command 0 [.host (.release (.dir .up))]) tiny) = .next u :=
  ⟨fun b => by rcases b with (_ | _ | _ | _) | (_ | _ | _ | _) <;> decide, by decide, _, rfl⟩

theorem witness_HostReadsAndWrites_idle :
    tiny.busy = false ∧ readFb { tiny with fb := [(0, 5), (65535, 6)] } 0xFFFF = some 6 ∧ readFb tiny 0 = none ∧
      (1 : Index) ≠ 0 := by decide
theorem witness_HostReadsAndWrites_busy : { tiny with busy := true }.busy = true := rfl

theorem witness_HostActionsKeepCore :
    (pending (.host (.writeCell 0 1)) tiny).inputs = .host (.writeCell 0 1) :: [] ∧
      ∃ t, step (pending (.host (.writeCell 0 1)) tiny) = .next t := ⟨rfl, _, rfl⟩

theorem witness_HostActionsKeepCore_stuck :
    cmdReady (pending (.command 0x40000000 []) stuckState) = false ∧
      resetsNext (pending (.command 0x40000000 []) stuckState) = false ∧
      (∃ t, step (pending (.command 0x40000000 []) stuckState) = .next t) ∧ tiny.inputs = [] :=
  ⟨rfl, rfl, ⟨_, rfl⟩, rfl⟩

/-- The ends of the ranges. -/
theorem witness_AssemblerChecksRanges :
    (-128 : Int) ≤ -128 ∧ (127 : Int) ≤ 127 ∧ (0 : Int) ≤ 255 ∧ (255 : Int) ≤ 255 ∧ (-1 : Int) < 0 := by decide

theorem witness_PseudoInstructionsDo :
    (List.replicate 256 (-128 : Int)).length = 256 ∧ (∀ v ∈ List.replicate 256 (-128 : Int), -128 ≤ v ∧ v ≤ 255) ∧
      (-255 : Int) ≤ -255 ∧ (255 : Int) ≤ 255 ∧ (-128 : Int) ≤ -128 ∧ (127 : Int) ≤ 127 :=
  ⟨List.length_replicate, fun v hv => by rw [List.eq_of_mem_replicate hv]; decide, by decide, by decide, by decide,
    by decide⟩

end Sys2Proof.Machine
end

section
/-! SUPPORT. What a step does with a command word presented to a ready block (spec 00_scope.md R7, 10_state.md R31,
45_frame.md R235). -/
namespace Sys2Proof.Machine

theorem cmdReady_eq_true_iff {s : State} : cmdReady s = true ↔ s.busy = false ∧ s.errConfig = false := by
  simp [cmdReady]

theorem wordEffect_ok {cw : Word} {i : Instr} (h : decode cw = .ok i) (s : State) :
    wordEffect cw s = effect i s := by
  simp only [wordEffect, h]

theorem offered_of_ready {s : State} (h : cmdReady s = true) (cw : Word) (during : List BusyEvent) :
    offered cw during s = finish during (wordEffect cw (accept s)) :=
  if_pos h

/-- Taking the input off the pending ones leaves the block as ready as it was. -/
@[simp] theorem cmdReady_dropInput (rest : List HostInput) (s : State) : cmdReady (dropInput rest s) = cmdReady s := rfl

/-- A word presented to a ready block is performed at the accepting state, and the command is then finished. -/
theorem step_command_ready {s : State} {cw : Word} {during : List BusyEvent} {rest : List HostInput}
    (hready : cmdReady s = true) (hin : s.inputs = .command cw during :: rest) :
    step s = .next (finish during (wordEffect cw (accept (dropInput rest s)))) := by
  have hoffered := offered_of_ready ((cmdReady_dropInput rest s).trans hready) cw during
  rw [step_input hin, inputEffect, hoffered]

/-- What happened while a command ran does not touch its strobe, so the strobe the command itself left decides the
rotate. -/
theorem finish_eq (during : List BusyEvent) (t : State) :
    finish during t =
      { (if t.strobe then rotateLatch (busyEvents during t) else busyEvents during t) with busy := false } := by
  have hstrobe : (busyEvents during t).strobe = t.strobe := (keepsCore_busyEvents during t).strobe
  rw [finish, applyStrobe, hstrobe, complete]

/-- Settles O6: the ready block accepts the word, performs `exec i` at the accepting state, and finishes the command. -/
theorem stepRunsDecodedCommand : Obligations.StepRunsDecodedCommand := by
  intro s cw during rest i t hbusy hconfig hin hdecode hexec
  have ht : effect i (accept (dropInput rest s)) = t :=
    Host.Outcome.next.inj ((exec_eq_effect i _).symm.trans hexec)
  rw [step_command_ready (cmdReady_eq_true_iff.2 ⟨hbusy, hconfig⟩) hin, wordEffect_ok hdecode, ht, finish_eq]

end Sys2Proof.Machine
end

section
/-! SUPPORT. What a step that is no reset keeps of the session: the configuration, and ERR_ILLEGAL once it is set (spec
10_state.md R29, R35). -/
namespace Sys2Proof.Machine

/-- The configuration is the same, and ERR_ILLEGAL, once set, stays set (R29, R35). -/
structure KeepsSession (s t : State) : Prop where
  cfg : t.cfg = s.cfg
  errIllegal : s.errIllegal = true → t.errIllegal = true

theorem KeepsSession.refl (s : State) : KeepsSession s s := ⟨rfl, id⟩

theorem KeepsSession.trans {s t u : State} (h : KeepsSession s t) (h' : KeepsSession t u) : KeepsSession s u :=
  ⟨h'.cfg.trans h.cfg, h'.errIllegal ∘ h.errIllegal⟩

theorem KeepsRest.keepsSession {s t : State} (h : KeepsRest s t) : KeepsSession s t := ⟨h.cfg, h.errIllegal.trans⟩

theorem KeepsCore.keepsSession {s t : State} (h : KeepsCore s t) : KeepsSession s t := ⟨h.cfg, h.errIllegal.trans⟩

theorem keepsSession_dropInput (rest : List HostInput) (s : State) : KeepsSession s (dropInput rest s) := ⟨rfl, id⟩

theorem keepsSession_accept (s : State) : KeepsSession s (accept s) := ⟨rfl, id⟩

theorem keepsSession_complete (s : State) : KeepsSession s (complete s) := ⟨rfl, id⟩

theorem keepsSession_applyStrobe (s : State) : KeepsSession s (applyStrobe s) := by
  unfold applyStrobe
  split
  · exact ⟨rfl, id⟩
  · exact .refl s

theorem keepsSession_finish (during : List BusyEvent) (s : State) : KeepsSession s (finish during s) :=
  ((keepsCore_busyEvents during s).keepsSession.trans (keepsSession_applyStrobe _)).trans (keepsSession_complete _)

theorem wordEffect_illegal {cw : Word} {e : IllegalWord} (h : decode cw = .error e) (s : State) :
    wordEffect cw s = raiseIllegal s := by
  simp only [wordEffect, h]

theorem keepsSession_wordEffect (cw : Word) (s : State) : KeepsSession s (wordEffect cw s) := by
  cases h : decode cw with
  | ok i => rw [wordEffect_ok h]; exact (keepsRest_effect i s).keepsSession
  | error e => rw [wordEffect_illegal h]; exact ⟨raiseIllegal_cfg s, fun _ => raiseIllegal_errIllegal s⟩

theorem keepsSession_offered (cw : Word) (during : List BusyEvent) (s : State) :
    KeepsSession s (offered cw during s) := by
  unfold offered
  split
  · exact ((keepsSession_accept s).trans (keepsSession_wordEffect cw _)).trans (keepsSession_finish during _)
  · exact (keepsCore_busyEvents during s).keepsSession

theorem keepsSession_inputEffect {i : HostInput} (h : isResetInput i = false) (s : State) :
    KeepsSession s (inputEffect i s) := by
  cases i with
  | command cw during => exact keepsSession_offered cw during s
  | frame during => exact keepsSession_offered _ during s
  | host e => exact (keepsCore_hostEvent e s).keepsSession
  | reset during req => cases h
  | abort cw during issued req => cases h

theorem resetsNext_cons {s : State} {i : HostInput} {rest : List HostInput} (h : s.inputs = i :: rest) :
    resetsNext s = isResetInput i := by
  simp [resetsNext, h]

/-- A step that is no reset keeps the configuration, and keeps ERR_ILLEGAL set. -/
theorem keepsSession_step {s t : State} (hstep : step s = .next t) (hreset : resetsNext s = false) :
    KeepsSession s t := by
  obtain ⟨-, rfl⟩ | ⟨i, rest, hin, rfl⟩ := step_cases hstep
  · exact .refl t
  · have hi : isResetInput i = false := (resetsNext_cons hin).symm.trans hreset
    exact (keepsSession_dropInput rest s).trans (keepsSession_inputEffect hi _)

/-- Settles O11: no step but a reset changes the configuration. -/
theorem configurationConstantInSession : Obligations.ConfigurationConstantInSession :=
  fun _ _ hstep hreset => (keepsSession_step hstep hreset).cfg

end Sys2Proof.Machine
end

section
/-! SUPPORT. What each field of STATUS shows (spec 10_state.md R32). -/
namespace Sys2Proof.Machine

/-- STATUS at the width its nine fields add up to, which is the width the library's rules for `++` speak of
(R32); `-Nat.reduceAdd` keeps `simp` from turning it into 32. -/
def statusFields (s : State) : BitVec (8 + 8 + 8 + 2 + 1 + 1 + 1 + 1 + 2) :=
  0#8 ++ s.yoff ++ s.xoff ++ 0#2 ++ BitVec.ofBool s.errConfig ++ BitVec.ofBool s.errIllegal ++
    BitVec.ofBool s.busy ++ BitVec.ofBool s.chk ++ Mode.code s.mode

variable (s : State)

theorem extractLsb'_statusWord (start len : Nat) :
    (statusWord s).extractLsb' start len = (statusFields s).extractLsb' start len := rfl

theorem getLsbD_statusWord (i : Nat) : (statusWord s).getLsbD i = (statusFields s).getLsbD i := rfl

theorem statusWord_mode : (statusWord s).extractLsb' 0 2 = Mode.code s.mode := by
  rw [extractLsb'_statusWord, statusFields, BitVec.extractLsb'_append_eq_right]

theorem statusWord_chk : (statusWord s).getLsbD 2 = s.chk := by
  simp [getLsbD_statusWord, statusFields, BitVec.getLsbD_append, -Nat.reduceAdd, -BitVec.getLsbD_eq_getElem]

theorem statusWord_busy : (statusWord s).getLsbD 3 = s.busy := by
  simp [getLsbD_statusWord, statusFields, BitVec.getLsbD_append, -Nat.reduceAdd, -BitVec.getLsbD_eq_getElem]

theorem statusWord_errIllegal : (statusWord s).getLsbD 4 = s.errIllegal := by
  simp [getLsbD_statusWord, statusFields, BitVec.getLsbD_append, -Nat.reduceAdd, -BitVec.getLsbD_eq_getElem]

theorem statusWord_errConfig : (statusWord s).getLsbD 5 = s.errConfig := by
  simp [getLsbD_statusWord, statusFields, BitVec.getLsbD_append, -Nat.reduceAdd, -BitVec.getLsbD_eq_getElem]

theorem statusWord_reservedLow : (statusWord s).extractLsb' 6 2 = 0#2 := by
  simp [extractLsb'_statusWord, statusFields, BitVec.extractLsb'_append_eq_ite, -Nat.reduceAdd]

theorem statusWord_xoff : (statusWord s).extractLsb' 8 8 = s.xoff := by
  simp [extractLsb'_statusWord, statusFields, BitVec.extractLsb'_append_eq_ite, -Nat.reduceAdd]

theorem statusWord_yoff : (statusWord s).extractLsb' 16 8 = s.yoff := by
  simp [extractLsb'_statusWord, statusFields, BitVec.extractLsb'_append_eq_ite, -Nat.reduceAdd]

theorem statusWord_reservedHigh : (statusWord s).extractLsb' 24 8 = 0#8 := by
  simp [extractLsb'_statusWord, statusFields, BitVec.extractLsb'_append_eq_ite, -Nat.reduceAdd]

/-- After a reset every field of STATUS is 0 but ERR_CONFIG, which reflects the configuration check (R32). -/
theorem statusWord_of_resetLeaves {req : ResetRequest} {s t : State} (h : ResetLeaves req s t) :
    statusWord t = if portOk req.port then 0x00000000 else 0x00000020 := by
  rw [statusWord, h.mode, h.xoff, h.yoff, h.chk, h.busy, h.errIllegal, h.errConfig]
  cases portOk req.port <;> decide

end Sys2Proof.Machine
end

section
/-! SUPPORT. Which commands own MODE, CHK, XOFF, YOFF and RES (spec 10_state.md R21, R28, R32, 45_frame.md R230). -/
namespace Sys2Proof.Machine

/-- A frame renders with the mode its advance left, and changes MODE no further (R231). -/
theorem runFrame_mode (held pressed : Byte) (s : State) :
    (runFrame held pressed s).mode = (frameAdvance pressed s).mode := by
  obtain ⟨-, h⟩ | ⟨hm, h⟩ := runFrame_cases held pressed s
  · rw [h, emitRotate_mode, (paints_framePattern _).mode, frameToggle_mode]
  · have hscroll := frameScroll_mode held pressed (frameAdvance pressed s)
    rw [h, emitRotate_mode, (paints_frameBranch held pressed _ (hscroll ▸ hm)).mode, hscroll]

theorem runFrame_res (held pressed : Byte) (s : State) : (runFrame held pressed s).res = s.res := by
  obtain ⟨-, h⟩ | ⟨hm, h⟩ := runFrame_cases held pressed s
  · rw [h, emitRotate_res, (paints_framePattern _).res, frameToggle_res, frameAdvance_res]
  · have hscroll := frameScroll_mode held pressed (frameAdvance pressed s)
    rw [h, emitRotate_res, (paints_frameBranch held pressed _ (hscroll ▸ hm)).res, frameScroll_res, frameAdvance_res]

theorem runFrame_mode_cases (held pressed : Byte) (s : State) :
    (runFrame held pressed s).mode = s.mode ∨ (runFrame held pressed s).mode = nextMode s.mode := by
  rw [runFrame_mode, frameAdvance_mode]
  split
  · exact .inr rfl
  · exact .inl rfl

/-- RES belongs to the four commands that return a value (R28). -/
theorem effect_res_of_ne {i : Instr} (hC2I : ∀ x y, i ≠ .xltC2I x y) (hI2C : ∀ idx, i ≠ .xltI2C idx)
    (hLut1Rd : ∀ a, i ≠ .lut1Rd a) (hLut2Rd : ∀ r c, i ≠ .lut2Rd r c) (s : State) : (effect i s).res = s.res := by
  cases i with
  | xltC2I x y => exact absurd rfl (hC2I x y)
  | xltI2C idx => exact absurd rfl (hI2C idx)
  | lut1Rd a => exact absurd rfl (hLut1Rd a)
  | lut2Rd r c => exact absurd rfl (hLut2Rd r c)
  | frame held pressed => exact runFrame_res held pressed s
  | _ => rfl

section NotFrame

variable {i : Instr} (hframe : ∀ held pressed, i ≠ .frame held pressed) (s : State)
include hframe

theorem effect_mode_of_ne (h : i ≠ .modeAdv) : (effect i s).mode = s.mode := by
  cases i with
  | frame held pressed => exact absurd rfl (hframe held pressed)
  | modeAdv => exact absurd rfl h
  | _ => rfl

theorem effect_chk_of_ne (h : i ≠ .chkToggle) : (effect i s).chk = s.chk := by
  cases i with
  | frame held pressed => exact absurd rfl (hframe held pressed)
  | chkToggle => exact absurd rfl h
  | _ => rfl

theorem effect_xoff_of_ne (h : ¬(i = .xoffInc ∨ i = .xoffDec)) : (effect i s).xoff = s.xoff := by
  cases i with
  | frame held pressed => exact absurd rfl (hframe held pressed)
  | xoffInc => exact absurd (.inl rfl) h
  | xoffDec => exact absurd (.inr rfl) h
  | _ => rfl

theorem effect_yoff_of_ne (h : ¬(i = .yoffInc ∨ i = .yoffDec)) : (effect i s).yoff = s.yoff := by
  cases i with
  | frame held pressed => exact absurd rfl (hframe held pressed)
  | yoffInc => exact absurd (.inl rfl) h
  | yoffDec => exact absurd (.inr rfl) h
  | _ => rfl

end NotFrame

/-- A command leaves MODE as it is or advances it once, and only MODE.ADV and FRAME advance it (R21). -/
theorem effect_mode_cases (i : Instr) (s : State) :
    (effect i s).mode = s.mode ∨
      (effect i s).mode = nextMode s.mode ∧ (i = .modeAdv ∨ ∃ held pressed, i = .frame held pressed) := by
  cases i with
  | modeAdv => exact .inr ⟨rfl, .inl rfl⟩
  | frame held pressed => exact (runFrame_mode_cases held pressed s).imp_right fun h => ⟨h, .inr ⟨held, pressed, rfl⟩⟩
  | _ => exact .inl rfl

end Sys2Proof.Machine
end

section
/-! SUPPORT. The statements about the architectural state (spec 10_state.md R21, R28, R29, R32). -/
namespace Sys2Proof.Machine

theorem step_illegal_errIllegal {s t : State} {cw : Word} {during : List BusyEvent} {rest : List HostInput}
    {e : IllegalWord} (hready : cmdReady s = true) (hin : s.inputs = .command cw during :: rest)
    (hdecode : decode cw = .error e) (hstep : step s = .next t) : t.errIllegal = true := by
  rw [step_command_ready hready hin, wordEffect_illegal hdecode] at hstep
  obtain rfl := Host.Outcome.next.inj hstep
  exact (keepsSession_finish during _).errIllegal (raiseIllegal_errIllegal _)

/-- Settles O9: an illegal word raises the bit, a step that is no reset keeps it, and a reset clears it. -/
theorem errIllegalIsSticky : Obligations.ErrIllegalIsSticky := by
  refine ⟨fun s t cw during rest e => step_illegal_errIllegal, ?kept, ?command, ?reset, rfl, statusWord_errIllegal⟩
  case kept => exact fun s t hstep hset hreset => (keepsSession_step hstep hreset).errIllegal hset
  case command =>
    intro s t i hexec
    obtain rfl := (exec_next_iff i s t).1 hexec
    exact (keepsRest_effect i s).errIllegal
  case reset => exact fun req s => (resetLeaves_hostReset req s).errIllegal

/-- Settles O12: the layout field by field, then the owner of each field, then the fields no command changes. -/
theorem statusLayout : Obligations.StatusLayout := by
  refine ⟨?layout, rfl, rfl, rfl, ?owners, ?kept, fun req s => statusWord_of_resetLeaves (resetLeaves_hostReset req s)⟩
  case layout =>
    exact fun s => ⟨statusWord_mode s, statusWord_chk s, statusWord_busy s, statusWord_errIllegal s,
      statusWord_errConfig s, statusWord_reservedLow s, statusWord_xoff s, statusWord_yoff s, statusWord_reservedHigh s⟩
  case owners =>
    intro i s t hexec hframe
    obtain rfl := (exec_next_iff i s t).1 hexec
    exact ⟨not_imp_comm.1 (effect_mode_of_ne hframe s), not_imp_comm.1 (effect_chk_of_ne hframe s),
      not_imp_comm.1 (effect_xoff_of_ne hframe s), not_imp_comm.1 (effect_yoff_of_ne hframe s)⟩
  case kept =>
    intro i s t hexec
    obtain rfl := (exec_next_iff i s t).1 hexec
    have hkept := keepsRest_effect i s
    exact ⟨hkept.busy, hkept.errIllegal, hkept.errConfig⟩

theorem hostReadRes_idle {s : State} (h : s.busy = false) : hostReadRes s = giveHost s.res s := by
  simp [hostReadRes, h]

/-- Settles O13: RES keeps its value under every other command, and each of the four leaves its own layout there. -/
theorem resWrittenByFourCommands : Obligations.ResWrittenByFourCommands := by
  refine ⟨?others, ?writers, ?read, fun req s => (resetLeaves_hostReset req s).res⟩
  case others =>
    intro i s t hexec hC2I hI2C hLut1Rd hLut2Rd
    obtain rfl := (exec_next_iff i s t).1 hexec
    exact effect_res_of_ne hC2I hI2C hLut1Rd hLut2Rd s
  case writers =>
    intro i s t hexec
    obtain rfl := (exec_next_iff i s t).1 hexec
    refine ⟨?_, ?_, ?_, ?_⟩
    · rintro x y rfl
      exact setRes_res s _
    · rintro idx rfl
      exact setRes_res s _
    · rintro a rfl
      exact setRes_res s _
    · rintro r c rfl
      exact setRes_res s _
  case read =>
    intro s hbusy
    rw [hostEvent, hostReadRes_idle hbusy, giveHost_hostData]

theorem code_ne_three (m : Mode) : Mode.code m ≠ 3#2 := by
  cases m <;> decide

theorem code_nextMode (m : Mode) : (Mode.code (nextMode m)).toNat = ((Mode.code m).toNat + 1) % 3 := by
  cases m <;> rfl

/-- Settles O14: no mode has code 3, and a command advances MODE at most once. -/
theorem modeOnlyAdvances : Obligations.ModeOnlyAdvances := by
  refine ⟨fun s => statusWord_mode s ▸ code_ne_three s.mode, code_nextMode, fun req s => ?reset, ?command⟩
  case reset => rw [(resetLeaves_hostReset req s).mode]; rfl
  case command =>
    intro i s t hexec
    obtain rfl := (exec_next_iff i s t).1 hexec
    exact effect_mode_cases i s

end Sys2Proof.Machine
end

section
/-! SUPPORT. Every step keeps the invariant (spec 20_memory.md R50, 60_exceptions.md R252, R269). -/
namespace Sys2Proof.Machine

theorem Inv.canonical {s : State} (h : Inv s) : Canonical s := ⟨h.ft1Canonical, h.ft2Canonical, h.fbCanonical⟩

/-! The canonical form of the memories, through the parts of a step. -/

theorem canonical_dropInput (rest : List HostInput) {s : State} (h : Canonical s) : Canonical (dropInput rest s) :=
  h.of_same rfl rfl rfl

theorem canonical_wordEffect (cw : Word) {s : State} (h : Canonical s) : Canonical (wordEffect cw s) := by
  cases hdecode : decode cw with
  | ok i => rw [wordEffect_ok hdecode]; exact canonical_effect i h
  | error e => rw [wordEffect_illegal hdecode]; exact h.of_same rfl rfl rfl

theorem canonical_offered (cw : Word) (during : List BusyEvent) {s : State} (h : Canonical s) :
    Canonical (offered cw during s) := by
  have haccept : Canonical (accept s) := h.of_same rfl rfl rfl
  unfold offered
  split
  · exact canonical_finish during (canonical_wordEffect cw haccept)
  · exact canonical_busyEvents during h

theorem canonical_underWay (ws : List FbWrite) {s : State} (h : Canonical s) : Canonical (underWay ws s) :=
  ⟨h.ft1, h.ft2, framebufferWf_applyWrites ws h.fb⟩

/-- What a command cut short leaves is canonical whatever the whole command would have left: only its write list and
its strobe are looked at. -/
theorem canonical_cutShort (during : List BusyEvent) (issued : Nat) (t : State) {s : State} (h : Canonical s) :
    Canonical (cutShort during issued t s) := by
  have hevents := canonical_busyEvents during (canonical_underWay (t.fbWrites.take issued) h)
  unfold cutShort
  split
  · exact hevents.of_same rfl rfl rfl
  · exact hevents

theorem Canonical.inv {s : State} (h : Canonical s) (hchecked : s.errConfig = false → configOk s.cfg = true)
    (hstuck : s.errConfig = true →
      s.mode = .viewTwoArgFunction ∧ s.xoff = 0 ∧ s.yoff = 0 ∧ s.chk = false ∧ s.res = 0 ∧ s.errIllegal = false ∧
        s.fbWrites = [] ∧ s.strobe = false)
    (hidle : s.busy = false) : Inv s :=
  ⟨h.ft1, h.ft2, h.fb, hchecked, hstuck, hidle⟩

/-! The invariant, by what a step can be: an action that leaves the core alone, a reset, an accepted command. -/

/-- A state with the same core registers and outputs, and canonical memories, meets the invariant too. -/
theorem KeepsCore.inv {s t : State} (h : KeepsCore s t) (hs : Inv s) (ht : Canonical t) : Inv t := by
  refine ht.inv ?checked ?stuck (h.busy.trans hs.idle)
  case checked => rw [h.errConfig, h.cfg]; exact hs.configChecked
  case stuck =>
    rw [h.errConfig, h.mode, h.xoff, h.yoff, h.chk, h.res, h.errIllegal, h.fbWrites, h.strobe]
    exact hs.stuckAtReset

theorem configOk_of_portOk {port : ConfigPort} (h : portOk port = true) : configOk (samplePort port) = true := by
  simp only [portOk, Bool.and_eq_true] at h
  obtain ⟨⟨⟨⟨⟨⟨-, hok⟩, -⟩, -⟩, -⟩, -⟩, -⟩ := h
  exact hok

/-- A reset establishes the invariant, whatever the registers were before it: all of them have their reset values, and
ERR_CONFIG is clear only when the check has passed (R252). -/
theorem ResetLeaves.inv {req : ResetRequest} {s t : State} (h : ResetLeaves req s t) (ht : Canonical t) : Inv t := by
  refine ht.inv ?checked ?stuck h.busy
  case checked => rw [h.errConfig, h.cfg, Bool.not_eq_false']; exact configOk_of_portOk
  case stuck => exact fun _ => ⟨h.mode, h.xoff, h.yoff, h.chk, h.res, h.errIllegal, h.fbWrites, h.strobe⟩

@[simp] theorem wordEffect_errConfig (cw : Word) (s : State) : (wordEffect cw s).errConfig = s.errConfig := by
  cases h : decode cw with
  | ok i => rw [wordEffect_ok h]; exact (keepsRest_effect i s).errConfig
  | error e => rw [wordEffect_illegal h]; exact raiseIllegal_errConfig s

@[simp] theorem applyStrobe_errConfig (s : State) : (applyStrobe s).errConfig = s.errConfig := by
  unfold applyStrobe
  split <;> rfl

@[simp] theorem finish_errConfig (during : List BusyEvent) (s : State) :
    (finish during s).errConfig = s.errConfig := by
  rw [finish, complete_errConfig, applyStrobe_errConfig, (keepsCore_busyEvents during s).errConfig]

/-- A presented word keeps the invariant. Accepted, it runs in a session whose check passed, and such a session
constrains the configuration only, which no word changes; not accepted, it leaves the core alone. -/
theorem inv_offered (cw : Word) (during : List BusyEvent) {s : State} (h : Inv s) : Inv (offered cw during s) := by
  have hcanonical := canonical_offered cw during h.canonical
  cases hready : cmdReady s with
  | true =>
    have herr : s.errConfig = false := (cmdReady_eq_true_iff.1 hready).2
    have herr' : (offered cw during s).errConfig = false := by
      rw [offered_of_ready hready, finish_errConfig, wordEffect_errConfig, accept_errConfig, herr]
    refine hcanonical.inv ?checked ?stuck ?idle
    case checked => exact fun _ => (keepsSession_offered cw during s).cfg ▸ h.configChecked herr
    case stuck => exact fun hstuck => absurd (herr'.symm.trans hstuck) Bool.false_ne_true
    case idle => rw [offered_of_ready hready]; exact complete_busy _
  | false =>
    have hignored : offered cw during s = busyEvents during s := if_neg (by simp [hready])
    rw [hignored] at hcanonical ⊢
    exact (keepsCore_busyEvents during s).inv h hcanonical

theorem inv_hostReset (req : ResetRequest) {s : State} (h : Canonical s) : Inv (hostReset req s) :=
  (resetLeaves_hostReset req s).inv (canonical_hostReset req h)

theorem inv_aborted (cw : Word) (during : List BusyEvent) (issued : Nat) (req : ResetRequest) {s : State}
    (h : Canonical s) : Inv (aborted cw during issued req s) := by
  unfold aborted
  split
  · exact (resetLeaves_resetSequence req _).inv (canonical_resetSequence req (canonical_cutShort during issued _ h))
  · exact inv_hostReset req (canonical_busyEvents during h)

/-- Every action of the outside world keeps the invariant. -/
theorem inv_inputEffect (i : HostInput) {s : State} (h : Inv s) : Inv (inputEffect i s) := by
  cases i with
  | command cw during => exact inv_offered cw during h
  | frame during => exact inv_offered _ during h
  | host e => exact (keepsCore_hostEvent e s).inv h (canonical_hostEvent e h.canonical)
  | reset during req => exact inv_hostReset req (canonical_busyEvents during (canonical_underWay [] h.canonical))
  | abort cw during issued req => exact inv_aborted cw during issued req h.canonical

theorem inv_dropInput (rest : List HostInput) {s : State} (h : Inv s) : Inv (dropInput rest s) :=
  ⟨h.ft1Canonical, h.ft2Canonical, h.fbCanonical, h.configChecked, h.stuckAtReset, h.idle⟩

/-- Settles O19: an idle step changes nothing, and every other one is the effect of the next input. -/
theorem stepKeepsInv : Obligations.StepKeepsInv := by
  intro s t hinv hstep
  obtain ⟨-, rfl⟩ | ⟨i, rest, -, rfl⟩ := step_cases hstep
  · exact hinv
  · exact inv_inputEffect i (inv_dropInput rest hinv)

end Sys2Proof.Machine
end

section
/-! SUPPORT. A command's framebuffer is the one before it with the writes it issued applied (spec 20_memory.md R55). -/
namespace Sys2Proof.Machine

theorem lookup_applyWrites_concat (m : Framebuffer) (ws : List FbWrite) (w : FbWrite) (i : Index) :
    lookup (applyWrites m (ws ++ [w])) i.toNat =
      if i = w.1 then some w.2 else lookup (applyWrites m ws) i.toNat := by
  rw [applyWrites_append, applyWrites_cons, applyWrites_nil, lookup_writeCell]

/-- `t` is left by a command that issued a write list, and holds it applied to the framebuffer of `s` (R55). -/
def AppliesWrites (s t : State) : Prop := ∃ ws, t.fbWrites = s.fbWrites ++ ws ∧ t.fb = applyWrites s.fb ws

theorem appliesWrites_issue (ws : List FbWrite) (s : State) : AppliesWrites s (issue ws s) := ⟨ws, rfl, rfl⟩

theorem appliesWrites_of_same {s t : State} (hwrites : t.fbWrites = s.fbWrites) (hfb : t.fb = s.fb) :
    AppliesWrites s t :=
  ⟨[], hwrites.trans (List.append_nil _).symm, hfb⟩

theorem appliesWrites_runFrame (held pressed : Byte) (s : State) : AppliesWrites s (runFrame held pressed s) := by
  obtain ⟨-, h⟩ | ⟨hm, h⟩ := runFrame_cases held pressed s
  · obtain ⟨ws, hwrites, hfb⟩ := (paints_framePattern (frameToggle pressed (frameAdvance pressed s))).fb
    exact ⟨ws, by simp [h, hwrites], by simp [h, hfb]⟩
  · have hscroll := frameScroll_mode held pressed (frameAdvance pressed s)
    obtain ⟨ws, hwrites, hfb⟩ := (paints_frameBranch held pressed _ (hscroll ▸ hm)).fb
    exact ⟨ws, by simp [h, hwrites], by simp [h, hfb]⟩

theorem appliesWrites_effect (i : Instr) (s : State) : AppliesWrites s (effect i s) := by
  cases i with
  | frame held pressed => exact appliesWrites_runFrame held pressed s
  | fill sel => rw [effect, paintSolid_eq]; exact appliesWrites_issue _ s
  | patStripe => rw [effect, paintStripe_eq]; exact appliesWrites_issue _ s
  | patChecker => rw [effect, paintChecker_eq]; exact appliesWrites_issue _ s
  | drawFn1 => rw [effect, plot1_eq]; exact appliesWrites_issue _ s
  | drawFn2 => rw [effect, plot2_eq]; exact appliesWrites_issue _ s
  | _ => exact appliesWrites_of_same rfl rfl

/-- Settles O17: the last write of a list decides its cell, and a command applies the list it issues. -/
theorem lastWriteToCellWins : Obligations.LastWriteToCellWins := by
  refine ⟨lookup_applyWrites_concat, fun i s t hexec => ?_⟩
  obtain rfl := (exec_next_iff i s t).1 hexec
  exact appliesWrites_effect i s

end Sys2Proof.Machine
end

section
/-! SUPPORT. What the host reads, and what its write to a cell does (spec 20_memory.md R56, 70_reset_and_hazards.md R295,
R296). -/
namespace Sys2Proof.Machine

variable {s : State}

theorem hostReadRes_busy (h : s.busy = true) : hostReadRes s = freeRead s := if_pos h

theorem hostReadStatus_idle (h : s.busy = false) : hostReadStatus s = giveHost (statusWord s) s := by
  simp [hostReadStatus, h]

theorem hostReadStatus_busy (h : s.busy = true) : hostReadStatus s = freeRead s := if_pos h

theorem hostReadCell_written {i : Index} {c : Colour} (h : s.busy = false) (hcell : readFb s i = some c) :
    hostReadCell i s = giveHost c s := by
  simp [hostReadCell, h, hcell]

/-- A read during a command, and one of a cell not written, gives a free value (R56, R295). -/
theorem hostReadCell_free {i : Index} (h : s.busy = true ∨ readFb s i = none) : hostReadCell i s = freeRead s := by
  unfold hostReadCell
  split
  · rfl
  · next hidle => rw [h.resolve_left hidle]

theorem hostWriteCell_idle (h : s.busy = false) (i : Index) (c : Colour) :
    hostWriteCell i c s = { s with fb := writeCell s.fb (i, c) } := by
  simp [hostWriteCell, h]

theorem hostWriteCell_busy (h : s.busy = true) (i : Index) (c : Colour) :
    hostWriteCell i c s = { s with fb := s.fb.filter fun p => !spoiledBy s i p.1 } :=
  if_pos h

theorem readFb_hostWriteCell_idle (h : s.busy = false) (i : Index) (c : Colour) (k : Index) :
    readFb (hostWriteCell i c s) k = if k = i then some c else readFb s k := by
  rw [hostWriteCell_idle h]
  exact lookup_writeCell s.fb (i, c) k

/-- The spoiled cells are the host's own and those the command writes (R295). -/
theorem spoiledBy_toNat_iff (s : State) (i k : Index) :
    spoiledBy s i k.toNat = true ↔ k = i ∨ ∃ w ∈ s.fbWrites, w.1 = k := by
  simp [spoiledBy, BitVec.toNat_inj]

theorem readFb_hostWriteCell_busy (h : s.busy = true) (i : Index) (c : Colour) (k : Index) :
    readFb (hostWriteCell i c s) k = if k = i ∨ ∃ w ∈ s.fbWrites, w.1 = k then none else readFb s k := by
  have hkept : readFb (hostWriteCell i c s) k = if !spoiledBy s i k.toNat then readFb s k else none := by
    rw [hostWriteCell_busy h]
    exact lookup_filter (fun a => !spoiledBy s i a) s.fb k.toNat
  simp only [hkept, ← spoiledBy_toNat_iff]
  cases spoiledBy s i k.toNat <;> simp

/-- A host write to a cell changes the framebuffer only. -/
theorem hostWriteCell_eq (i : Index) (c : Colour) (s : State) :
    hostWriteCell i c s = { s with fb := (hostWriteCell i c s).fb } := by
  unfold hostWriteCell
  split <;> rfl

/-- Settles O57: the reads with BUSY = 0, the free reads, then the host's writes with BUSY = 0 and during a command. -/
theorem hostReadsAndWrites : Obligations.HostReadsAndWrites := by
  refine ⟨fun s hidle => ⟨?_, ?_, ?_⟩, ?_, fun s hbusy => ⟨?_, ?_⟩, ?writeIdle, ?writeBusy⟩
  · exact hostReadRes_idle hidle
  · exact hostReadStatus_idle hidle
  · exact fun i c hcell => hostReadCell_written hidle hcell
  · exact fun s i hfree => hostReadCell_free hfree
  · exact hostReadRes_busy hbusy
  · exact hostReadStatus_busy hbusy
  case writeIdle =>
    intro s i c hidle
    have hread := readFb_hostWriteCell_idle hidle i c
    exact ⟨hostWriteCell_eq i c s, (hread i).trans (if_pos rfl), fun k hk => (hread k).trans (if_neg hk)⟩
  case writeBusy =>
    exact fun s i c hbusy => ⟨hostWriteCell_eq i c s, readFb_hostWriteCell_busy hbusy i c⟩

end Sys2Proof.Machine
end

section
/-! SUPPORT. Every command's word decodes to the command (spec 30_encoding.md R84). -/
namespace Sys2Proof

/-- A word laid out with a zero byte below its opcode passes the check of formats XY, AV, RC and B. -/
theorem formatHalf_bytes (op c d : Byte) (i : Instr) : formatHalf (op ++ 0#8 ++ c ++ d) i = .ok i := by
  rw [formatHalf, byte2_bytes]
  exact whenZero_zero i

theorem formatHalf_index (op : Byte) (idx : Index) (i : Instr) : formatHalf (op ++ 0#8 ++ idx) i = .ok i := by
  rw [formatHalf, byte2_index]
  exact whenZero_zero i

theorem formatA_mid (op a : Byte) (i : Instr) : formatA (op ++ 0#16 ++ a) i = .ok i := by
  rw [formatA, midField_mid]
  exact whenZero_zero i

/-- A word without an operand that varies is one number, which `decode` evaluates; every other word is read field by
field as its format laid it out. -/
theorem decode_encode (i : Instr) : decode (encode i) = .ok i := by
  cases i with
  | frame _ _ | xltC2I _ _ | lut2Rd _ _ | lut1Wr _ _ =>
    simp only [encode, decode, opField_bytes, formatHalf_bytes, byte1_bytes, byte0_bytes]
  | lut2Wr r c v => simp only [encode, decode, opField_bytes, byte2_bytes, byte1_bytes, byte0_bytes]
  | xltI2C idx => simp only [encode, decode, opField_index, formatHalf_index, idxField_index]
  | lut1Rd a => simp only [encode, decode, opField_mid, formatA_mid, byte0_mid]
  | fill sel => cases sel <;> rfl
  | _ => rfl

/-- Settles O1, by cases on the format of the command. -/
theorem decodeOfEncode : Obligations.DecodeOfEncode := decode_encode

/-- Settles O5: each of the eleven words is evaluated. -/
theorem exampleWordsDecode : Obligations.ExampleWordsDecode := by
  unfold Obligations.ExampleWordsDecode
  decide

end Sys2Proof
end

section
/-! SUPPORT. The formats of the opcode map: for each row its opcode, the lowest bit it reserves and the command it reads,
and `decode` as a search among them (spec 30_encoding.md R71 to R82). -/
namespace Sys2Proof

/-- How the words with one opcode are read: bits `lo` to 23 are reserved, and the command is read from the word. -/
structure Format where
  mnemonic : String
  op : Byte
  lo : Nat
  command : Word → Instr

/-- The format of every row of the opcode map, in its order (R81). -/
def formats : List Format := [
  ⟨"NOP", 0x00, 0, fun _ => .nop⟩,
  ⟨"FRAME", 0x01, 16, fun cw => .frame (byte1 cw) (byte0 cw)⟩,
  ⟨"XLT.C2I", 0x10, 16, fun cw => .xltC2I (byte1 cw) (byte0 cw)⟩,
  ⟨"XLT.I2C", 0x11, 16, fun cw => .xltI2C (idxField cw)⟩,
  ⟨"LUT1.RD", 0x20, 8, fun cw => .lut1Rd (byte0 cw)⟩,
  ⟨"LUT2.RD", 0x21, 16, fun cw => .lut2Rd (byte1 cw) (byte0 cw)⟩,
  ⟨"LUT1.WR", 0x22, 16, fun cw => .lut1Wr (byte1 cw) (byte0 cw)⟩,
  ⟨"LUT2.WR", 0x23, 24, fun cw => .lut2Wr (byte2 cw) (byte1 cw) (byte0 cw)⟩,
  ⟨"RAND1", 0x24, 0, fun _ => .rand1⟩,
  ⟨"RAND2", 0x25, 0, fun _ => .rand2⟩,
  ⟨"FILL", 0x30, 2, fun cw => .fill (ColourSel.ofCode (selField cw))⟩,
  ⟨"PAT.STRIPE", 0x31, 0, fun _ => .patStripe⟩,
  ⟨"PAT.CHECKER", 0x32, 0, fun _ => .patChecker⟩,
  ⟨"DRAW.FN1", 0x33, 0, fun _ => .drawFn1⟩,
  ⟨"DRAW.FN2", 0x34, 0, fun _ => .drawFn2⟩,
  ⟨"MODE.ADV", 0x40, 0, fun _ => .modeAdv⟩,
  ⟨"XOFF.INC", 0x41, 0, fun _ => .xoffInc⟩,
  ⟨"XOFF.DEC", 0x42, 0, fun _ => .xoffDec⟩,
  ⟨"YOFF.INC", 0x43, 0, fun _ => .yoffInc⟩,
  ⟨"YOFF.DEC", 0x44, 0, fun _ => .yoffDec⟩,
  ⟨"CHK.TOGGLE", 0x45, 0, fun _ => .chkToggle⟩]

/-- The bits of the word that the format reserves. -/
def Format.reserved (f : Format) (cw : Word) : BitVec (24 - f.lo) := cw.extractLsb' f.lo (24 - f.lo)

/-- The row of the opcode map that the format has: its mask covers every bit from `lo` up. -/
def Format.row (f : Format) : OpcodeRow := ⟨f.mnemonic, BitVec.allOnes 32 <<< f.lo, f.op.setWidth 32 <<< 24⟩

/-- The formats have exactly the rows of the opcode map. -/
theorem opcodeTable_eq : opcodeTable = formats.map Format.row := by decide

theorem lo_le_of_mem {f : Format} (hf : f ∈ formats) : f.lo ≤ 24 := by
  revert f
  decide

/-- No two formats have one opcode (R84). -/
theorem formats_op_nodup : (formats.map Format.op).Nodup := by decide

theorem eq_of_op_eq {f g : Format} (hf : f ∈ formats) (hg : g ∈ formats) (h : f.op = g.op) : f = g :=
  List.inj_on_of_nodup_map formats_op_nodup hf hg h

/-- The check of a format that reserves no bit always passes (R77). -/
theorem whenZero_nil (r : BitVec 0) (i : Instr) : whenZero r i = .ok i := if_pos (BitVec.eq_nil r)

theorem decode_lut2Wr {cw : Word} (ho : opField cw = 0x23) :
    decode cw = .ok (.lut2Wr (byte2 cw) (byte1 cw) (byte0 cw)) := by
  rw [decode, ho]
  rfl

/-- A word with a format's opcode is read by that format. -/
theorem decode_of_mem {f : Format} (hf : f ∈ formats) {cw : Word} (ho : opField cw = f.op) :
    decode cw = whenZero (f.reserved cw) (f.command cw) := by
  unfold formats at hf
  fin_cases hf
  pick_goal 8 -- LUT2.WR, whose arm of `decode` has no check
  · exact (decode_lut2Wr ho).trans (whenZero_nil _ _).symm
  all_goals rw [decode, ho]; rfl

/-- A word with no format's opcode is illegal for its opcode. -/
theorem decode_of_not_mem {cw : Word} (ho : ∀ f ∈ formats, opField cw ≠ f.op) : decode cw = .error .unassignedOp := by
  simp only [formats, List.forall_mem_cons] at ho
  unfold decode
  split
  case h_22 => rfl
  all_goals
    rename_i hop
    simp [hop] at ho

/-- Everything `decode` can do with a word. -/
theorem decode_cases (cw : Word) :
    (∃ f ∈ formats, opField cw = f.op ∧ decode cw = whenZero (f.reserved cw) (f.command cw)) ∨
      (∀ f ∈ formats, opField cw ≠ f.op) ∧ decode cw = .error .unassignedOp := by
  by_cases h : ∃ f ∈ formats, opField cw = f.op
  · obtain ⟨f, hf, ho⟩ := h
    exact .inl ⟨f, hf, ho, decode_of_mem hf ho⟩
  · have hnone : ∀ f ∈ formats, opField cw ≠ f.op := fun f hf ho => h ⟨f, hf, ho⟩
    exact .inr ⟨hnone, decode_of_not_mem hnone⟩

theorem decode_ok_iff (cw : Word) (i : Instr) :
    decode cw = .ok i ↔ ∃ f ∈ formats, opField cw = f.op ∧ f.reserved cw = 0 ∧ f.command cw = i := by
  constructor
  · intro h
    obtain ⟨f, hf, ho, hd⟩ | ⟨-, hd⟩ := decode_cases cw
    · exact ⟨f, hf, ho, (whenZero_ok_iff _ _ _).1 (hd.symm.trans h)⟩
    · cases hd.symm.trans h
  · rintro ⟨f, hf, ho, hr⟩
    exact (decode_of_mem hf ho).trans ((whenZero_ok_iff _ _ _).2 hr)

theorem decode_unassignedOp_iff (cw : Word) :
    decode cw = .error .unassignedOp ↔ ∀ f ∈ formats, opField cw ≠ f.op := by
  refine ⟨fun h f hf ho => ?_, decode_of_not_mem⟩
  exact nomatch ((whenZero_error_iff _ _ _).1 ((decode_of_mem hf ho).symm.trans h)).2

theorem decode_reservedBit_iff (cw : Word) :
    decode cw = .error .reservedBit ↔ ∃ f ∈ formats, opField cw = f.op ∧ f.reserved cw ≠ 0 := by
  constructor
  · intro h
    obtain ⟨f, hf, ho, hd⟩ | ⟨-, hd⟩ := decode_cases cw
    · exact ⟨f, hf, ho, ((whenZero_error_iff _ _ _).1 (hd.symm.trans h)).1⟩
    · cases hd.symm.trans h
  · rintro ⟨f, hf, ho, hr⟩
    exact (decode_of_mem hf ho).trans ((whenZero_error_iff _ _ _).2 ⟨hr, rfl⟩)

end Sys2Proof
end

section
/-! SUPPORT. A word that decodes is the word of its command, put together again from its opcode, its zeros and its
operands (spec 30_encoding.md R84). -/
namespace Sys2Proof

section Words

variable {cw : Word} {op : Byte}

theorem opField_append {lo len : Nat} (h : 24 = lo + len) (cw : Word) :
    opField cw ++ cw.extractLsb' lo len = cw.extractLsb' lo (8 + len) :=
  BitVec.extractLsb'_append_extractLsb'_eq_extractLsb' h

/-- Format N. -/
theorem word_of_op (ho : opField cw = op) (hr : cw.extractLsb' 0 24 = 0#24) : op ++ 0#24 = cw := by
  rw [← ho, ← hr]
  exact BitVec.extractLsb'_append_extractLsb' (w := 8) (len := 24)

/-- Formats XY, AV, RC and B. -/
theorem word_of_bytes (ho : opField cw = op) (hr : byte2 cw = 0#8) : op ++ 0#8 ++ byte1 cw ++ byte0 cw = cw := by
  rw [← ho, ← hr]
  exact bytes_of_word cw

/-- Format RCV. -/
theorem word_of_three (ho : opField cw = op) : op ++ byte2 cw ++ byte1 cw ++ byte0 cw = cw := by
  rw [← ho]
  exact bytes_of_word cw

/-- Format I. -/
theorem word_of_index (ho : opField cw = op) (hr : byte2 cw = 0#8) : op ++ 0#8 ++ idxField cw = cw := by
  rw [← ho, ← hr, byte2, opField_append rfl]
  exact BitVec.extractLsb'_append_extractLsb' (w := 16) (len := 16)

/-- Format A. -/
theorem word_of_byte0 (ho : opField cw = op) (hr : cw.extractLsb' 8 16 = 0#16) : op ++ 0#16 ++ byte0 cw = cw := by
  rw [← ho, ← hr, opField_append rfl]
  exact BitVec.extractLsb'_append_extractLsb' (w := 24) (len := 8)

/-- Format S. -/
theorem word_of_sel (ho : opField cw = op) (hr : cw.extractLsb' 2 22 = 0#22) :
    op ++ 0#22 ++ (ColourSel.ofCode (selField cw)).code = cw := by
  rw [← ho, ← hr, code_ofCode, opField_append rfl]
  exact BitVec.extractLsb'_append_extractLsb' (w := 30) (len := 2)

end Words

/-- The command a format reads from a word encodes to the word. -/
theorem encode_command : ∀ f ∈ formats, ∀ cw, opField cw = f.op → f.reserved cw = 0 → encode (f.command cw) = cw := by
  simp only [formats, List.forall_mem_cons]
  exact ⟨fun _ => word_of_op, fun _ => word_of_bytes, fun _ => word_of_bytes, fun _ => word_of_index,
    fun _ => word_of_byte0, fun _ => word_of_bytes, fun _ => word_of_bytes, fun _ ho _ => word_of_three ho,
    fun _ => word_of_op, fun _ => word_of_op, fun _ => word_of_sel, fun _ => word_of_op, fun _ => word_of_op,
    fun _ => word_of_op, fun _ => word_of_op, fun _ => word_of_op, fun _ => word_of_op, fun _ => word_of_op,
    fun _ => word_of_op, fun _ => word_of_op, fun _ => word_of_op, nofun⟩

/-- Settles O2: the format that reads the word gives it back. -/
theorem encodeOfDecode : Obligations.EncodeOfDecode := by
  intro cw i h
  obtain ⟨f, hf, ho, hr, rfl⟩ := (decode_ok_iff cw i).1 h
  exact encode_command f hf cw ho hr

end Sys2Proof
end

section
/-! SUPPORT. The formats against the rows of the opcode map, and what an illegal word does (spec 30_encoding.md R81 to
R84). -/
namespace Sys2Proof

theorem row_mem {f : Format} (hf : f ∈ formats) : f.row ∈ opcodeTable :=
  opcodeTable_eq ▸ List.mem_map_of_mem hf

theorem exists_format_of_mem {row : OpcodeRow} (h : row ∈ opcodeTable) : ∃ f ∈ formats, f.row = row :=
  List.mem_map.1 (opcodeTable_eq ▸ h)

/-- A word's masked bits are a format's match value exactly when the format reads a command from it. -/
theorem masked_row_iff {f : Format} (hf : f ∈ formats) (cw : Word) :
    cw &&& f.row.mask = f.row.value ↔ opField cw = f.op ∧ f.reserved cw = 0 :=
  masked_eq_iff (lo_le_of_mem hf) cw f.op

theorem matches_row_iff {f : Format} (hf : f ∈ formats) (cw : Word) :
    f.row.matches cw = true ↔ opField cw = f.op ∧ f.reserved cw = 0 :=
  beq_iff_eq.trans (masked_row_iff hf cw)

/-- The match value of a row holds the row's opcode. -/
theorem opField_row (f : Format) : opField f.row.value = f.op := by
  have hmask : f.row.value &&& (BitVec.allOnes 32 <<< 24) = f.row.value := by
    rw [Format.row, ← BitVec.shiftLeft_and_distrib, BitVec.and_allOnes]
  exact ((masked_eq_iff (le_refl 24) _ _).1 hmask).1

theorem mnemonicOf_command (cw : Word) : ∀ f ∈ formats, mnemonicOf (f.command cw) = f.mnemonic := by
  simp [formats, mnemonicOf]

/-- A row that a word matches is the row of the format with the word's opcode, whose reserved bits are then 0. -/
theorem row_eq_of_matches {f : Format} (hf : f ∈ formats) {cw : Word} (ho : opField cw = f.op) {row : OpcodeRow}
    (hrow : row ∈ opcodeTable) (hm : row.matches cw = true) : row = f.row ∧ f.reserved cw = 0 := by
  obtain ⟨g, hg, rfl⟩ := exists_format_of_mem hrow
  obtain ⟨hgo, hr⟩ := (matches_row_iff hg cw).1 hm
  obtain rfl := eq_of_op_eq hg hf (hgo.symm.trans ho)
  exact ⟨rfl, hr⟩

/-- Settles O3: the format with the word's opcode has the only row that can match, and it matches exactly when the
format's reserved bits are 0. -/
theorem decodeFollowsOpcodeMap : Obligations.DecodeFollowsOpcodeMap := by
  refine ⟨fun cw => ?_, by decide⟩
  obtain ⟨f, hf, ho, hd⟩ | ⟨hnone, hd⟩ := decode_cases cw
  · by_cases hr : f.reserved cw = 0
    · refine .inl ⟨f.row, row_mem hf, (matches_row_iff hf cw).2 ⟨ho, hr⟩, fun row hrow hm => ?_, f.command cw, ?_⟩
      · exact (row_eq_of_matches hf ho hrow hm).1
      · exact ⟨hd.trans ((whenZero_ok_iff _ _ _).2 ⟨hr, rfl⟩), mnemonicOf_command cw f hf⟩
    · refine .inr ⟨fun row hrow => Bool.eq_false_iff.2 fun hm => ?_, .reservedBit, ?_⟩
      · exact hr (row_eq_of_matches hf ho hrow hm).2
      · exact hd.trans ((whenZero_error_iff _ _ _).2 ⟨hr, rfl⟩)
  · refine .inr ⟨fun row hrow => Bool.eq_false_iff.2 fun hm => ?_, .unassignedOp, hd⟩
    obtain ⟨g, hg, rfl⟩ := exists_format_of_mem hrow
    exact hnone g hg ((matches_row_iff hg cw).1 hm).1

end Sys2Proof

namespace Sys2Proof.Machine

/-- An illegal word presented to a ready block sets ERR_ILLEGAL, completes, and has no output. -/
theorem step_illegal {s : State} {cw : Word} {rest : List HostInput} {e : IllegalWord} (hready : cmdReady s = true)
    (hin : s.inputs = .command cw [] :: rest) (hd : decode cw = .error e) :
    step s = .next { s with errIllegal := true, busy := false, inputs := rest, fbWrites := [], strobe := false } := by
  rw [step_command_ready hready hin, wordEffect_illegal hd]
  rfl

/-- Settles O4: a format with the word's opcode has the row that must reject it, and no format means no row. -/
theorem illegalWordOnlySetsErrIllegal : Obligations.IllegalWordOnlySetsErrIllegal := by
  refine ⟨fun cw => ?_, fun cw => ?_, fun cw ho => ?_, fun s cw rest e => step_illegal⟩
  · rw [decode_unassignedOp_iff, opcodeTable_eq, List.forall_mem_map]
    simp only [opField_row, ne_comm]
  · rw [decode_reservedBit_iff]
    constructor
    · rintro ⟨f, hf, ho, hr⟩
      exact ⟨f.row, row_mem hf, (opField_row f).trans ho.symm, fun hm => hr ((masked_row_iff hf cw).1 hm).2⟩
    · rintro ⟨row, hrow, ho, hm⟩
      obtain ⟨f, hf, rfl⟩ := exists_format_of_mem hrow
      have hop : opField cw = f.op := ho.symm.trans (opField_row f)
      exact ⟨f, hf, hop, fun hr => hm ((masked_row_iff hf cw).2 ⟨hop, hr⟩)⟩
  · exact ⟨_, decode_lut2Wr ho⟩

end Sys2Proof.Machine
end

section
/-! SUPPORT. Bytes made from signed numbers, and button vectors made from button sets (spec 00_scope.md R14,
30_encoding.md R79, R86). -/
namespace Sys2Proof

theorem u8_add (m n : Int) : u8 (m + n) = u8 m + u8 n := BitVec.ofInt_add m n

theorem u8_natCast (n : Nat) : u8 n = BitVec.ofNat 8 n := BitVec.ofInt_natCast 8 n

/-- A byte does not see a multiple of 256, so a negative value has an unsigned spelling (R86). -/
theorem u8_add_256 (v : Int) : u8 (v + 256) = u8 v := by
  rw [u8_add, show u8 256 = 0#8 by decide, BitVec.add_zero]

theorem toNat_u8 {v : Int} (h : 0 ≤ v) (h' : v ≤ 255) : ((u8 v).toNat : Int) = v := by
  rw [u8, BitVec.toNat_ofInt, Int.toNat_of_nonneg (by omega)]
  omega

end Sys2Proof

namespace Sys2Proof.Machine

/-- A button's mask has the bit of that button alone, so the eight bits are distinct (R79). -/
theorem isSet_buttonMask (b c : Button) : isSet (buttonMask c) b = (b == c) := by
  rcases b with (_ | _ | _ | _) | (_ | _ | _ | _) <;> rcases c with (_ | _ | _ | _) | (_ | _ | _ | _) <;> decide

theorem isSet_setButton (v : Byte) (b c : Button) : isSet (setButton v c) b = (isSet v b || b == c) := by
  rw [← isSet_buttonMask, setButton, isSet, BitVec.getLsbD_or, isSet, isSet]

theorem isSet_foldl_setButton (bs : List Button) (v : Byte) (b : Button) :
    isSet (bs.foldl setButton v) b = (isSet v b || bs.contains b) := by
  induction bs generalizing v with
  | nil => simp
  | cons c bs ih => rw [List.foldl_cons, ih, isSet_setButton, List.contains_cons, Bool.or_assoc]

theorem isSet_buttonVector (bs : List Button) (b : Button) : isSet (buttonVector bs) b = bs.contains b := by
  have hempty : isSet 0 b = false := BitVec.getLsbD_zero
  rw [buttonVector, isSet_foldl_setButton, hempty, Bool.false_or]

end Sys2Proof.Machine
end

section
/-! SUPPORT. Which source lines assemble (spec 30_encoding.md R86). -/
namespace Sys2Proof

theorem inRange_iff (lo hi v : Int) : inRange lo hi v = true ↔ lo ≤ v ∧ v ≤ hi := by
  simp [inRange]

theorem isSigned8_iff (v : Int) : isSigned8 v = true ↔ -128 ≤ v ∧ v ≤ 127 := inRange_iff ..

theorem isUnsigned8_iff (v : Int) : isUnsigned8 v = true ↔ 0 ≤ v ∧ v ≤ 255 := inRange_iff ..

theorem isUnsigned16_iff (v : Int) : isUnsigned16 v = true ↔ 0 ≤ v ∧ v ≤ 65535 := inRange_iff ..

theorem isValue8_iff (v : Int) : isValue8 v = true ↔ -128 ≤ v ∧ v ≤ 255 := inRange_iff ..

theorem isScroll_iff (v : Int) : isScroll v = true ↔ -255 ≤ v ∧ v ≤ 255 := inRange_iff ..

end Sys2Proof

namespace Sys2Proof.Machine

/-- A line assembles exactly when it is well formed. -/
theorem assemble_eq_ite {src : Source} {p : Prop} [Decidable p] (h : src.wellFormed = true ↔ p) :
    assemble src = if p then some (expand src) else none :=
  if_congr h rfl rfl

theorem assemble_of_wellFormed {src : Source} (h : src.wellFormed = true) : assemble src = some (expand src) := if_pos h

/-- Settles O59: a line's check is the conjunction of its operands' ranges. -/
theorem assemblerChecksRanges : Obligations.AssemblerChecksRanges := by
  refine ⟨fun x y => assemble_eq_ite ?_, fun n => assemble_eq_ite (isUnsigned16_iff n),
    fun a => assemble_eq_ite (isUnsigned8_iff a), fun r c => assemble_eq_ite ?_, fun a v => assemble_eq_ite ?_,
    fun r c v => assemble_eq_ite ?_, fun held pressed => rfl, fun sel => rfl, fun v => s8_u8, fun v => toNat_u8,
    fun v _ _ => (u8_add_256 v).symm, isSet_buttonVector⟩ <;>
  simp only [Source.wellFormed, Bool.and_eq_true, isSigned8_iff, isUnsigned8_iff, isValue8_iff, and_assoc]

end Sys2Proof.Machine
end

section
/-! SUPPORT. Lists of commands, and the lists that the pseudo-instructions stand for (spec 30_encoding.md R87). -/
namespace Sys2Proof.Machine

theorem runInstrs_cons (i : Instr) (is : List Instr) (s : State) :
    runInstrs (i :: is) s = runInstrs is (effect i s) := by
  rw [runInstrs, exec_eq_effect]

theorem runInstrs_append {is : List Instr} {s t : State} (h : runInstrs is s = .next t) (js : List Instr) :
    runInstrs (is ++ js) s = runInstrs js t := by
  induction is generalizing s with
  | nil => cases h; rfl
  | cons i is ih =>
    rw [runInstrs_cons] at h
    rw [List.cons_append, runInstrs_cons, ih h]

theorem readFt1_writeFt1 (a v : Byte) (s : State) (b : Byte) :
    readFt1 (writeFt1 a v s) b = if b = a then v else readFt1 s b := by
  simp only [readFt1, writeFt1_ft1, readTable_writeTable, BitVec.toNat_inj]

/-! LUT1.LOAD and LUT1.IDENT. -/

/-- The commands that write `f` to the first `n` entries of FT1, in ascending address order. -/
def loadFirst (f : Nat → Byte) (n : Nat) : List Instr := (List.range n).map fun k => .lut1Wr (BitVec.ofNat 8 k) (f k)

theorem loadFirst_succ (f : Nat → Byte) (n : Nat) :
    loadFirst f (n + 1) = loadFirst f n ++ [.lut1Wr (BitVec.ofNat 8 n) (f n)] := by
  simp [loadFirst, List.range_succ]

theorem loadTable_eq_loadFirst (l : List Int) : loadTable l = loadFirst (fun k => u8 (l.getD k 0)) l.length := by
  apply List.ext_getElem
  · simp [loadTable, loadFirst]
  · intro k hk _
    have hlt : k < l.length := by simpa [loadTable] using hk
    simp [loadTable, loadFirst, hlt]

/-- Writing the first `n` entries changes those entries and nothing else. -/
theorem runInstrs_loadFirst (f : Nat → Byte) (s : State) {n : Nat} (hn : n ≤ 256) :
    ∃ t, runInstrs (loadFirst f n) s = .next t ∧ t = { s with ft1 := t.ft1 } ∧
      ∀ a : Byte, readFt1 t a = if a.toNat < n then f a.toNat else readFt1 s a := by
  induction n with
  | zero => exact ⟨s, rfl, rfl, fun a => rfl⟩
  | succ n ih =>
    obtain ⟨t, hrun, hframe, hread⟩ := ih (by omega)
    refine ⟨writeFt1 (BitVec.ofNat 8 n) (f n) t, ?_, ?_, fun a => ?_⟩
    · rw [loadFirst_succ, runInstrs_append hrun]
      rfl
    · rw [hframe]
      rfl
    · have hlast : a = BitVec.ofNat 8 n ↔ a.toNat = n := by bv_omega
      rw [readFt1_writeFt1, hread]
      by_cases ha : a.toNat = n
      · simp [hlast, ha]
      · simp [hlast, ha, Nat.le_iff_lt_or_eq]

/-- A loaded list of 256 values is what FT1 then holds (R87). -/
theorem runInstrs_loadTable {l : List Int} (hl : l.length = 256) (s : State) :
    ∃ t, runInstrs (loadTable l) s = .next t ∧ t = { s with ft1 := t.ft1 } ∧
      ∀ a : Byte, readFt1 t a = u8 (l.getD a.toNat 0) := by
  rw [loadTable_eq_loadFirst, hl]
  obtain ⟨t, hrun, hframe, hread⟩ := runInstrs_loadFirst (fun k => u8 (l.getD k 0)) s (le_refl 256)
  exact ⟨t, hrun, hframe, fun a => (hread a).trans (if_pos a.isLt)⟩

theorem wellFormed_lut1Load {l : List Int} (hl : l.length = 256) (hv : ∀ v ∈ l, -128 ≤ v ∧ v ≤ 255) :
    (Source.lut1Load l).wellFormed = true := by
  simpa [Source.wellFormed, hl, isValue8_iff] using hv

theorem length_identityTable : identityTable.length = 256 := by simp [identityTable]

theorem identityTable_range {v : Int} (h : v ∈ identityTable) : -128 ≤ v ∧ v ≤ 255 := by
  obtain ⟨k, hk, rfl⟩ := List.mem_map.1 h
  have := List.mem_range.1 hk
  rw [Int.ofNat_eq_natCast]
  omega

theorem u8_identityTable (a : Byte) : u8 (identityTable.getD a.toNat 0) = a := by
  have hget : identityTable.getD a.toNat 0 = a.toNat := by simp [identityTable, a.isLt]
  rw [hget, u8_natCast, BitVec.ofNat_toNat, BitVec.setWidth_eq]

/-! SCROLLX and SCROLLY. -/

/-- A command that adds `c` to one byte of the state, repeated `k` times, adds `k * c`. -/
theorem runInstrs_replicate {i : Instr} {f : Byte → State} {c : Int} (h : ∀ v, effect i (f v) = f (v + u8 c)) (k : Nat)
    (v : Byte) : runInstrs (List.replicate k i) (f v) = .next (f (v + u8 (k * c))) := by
  induction k generalizing v with
  | zero => simp [runInstrs, u8]
  | succ k ih =>
    have hsum : v + u8 c + u8 (k * c) = v + u8 ((k + 1 : Nat) * c) := by
      rw [BitVec.add_assoc, ← u8_add]
      congr 2
      push_cast
      ring
    rw [List.replicate_succ, runInstrs_cons, h, ih, hsum]

/-- Scrolling by `n` adds `n` to the byte that the two commands step. -/
theorem runInstrs_scrollCopies {up down : Instr} {f : Byte → State} (hup : ∀ v, effect up (f v) = f (v + 1))
    (hdown : ∀ v, effect down (f v) = f (v - 1)) (n : Int) (v : Byte) :
    runInstrs (scrollCopies n up down) (f v) = .next (f (v + u8 n)) := by
  unfold scrollCopies
  split
  next hpos =>
    have hn : (n.natAbs : Int) * 1 = n := by omega
    rw [runInstrs_replicate (c := 1) hup, hn]
  next hneg =>
    have hn : (n.natAbs : Int) * -1 = n := by omega
    have hdown' : ∀ v, effect down (f v) = f (v + u8 (-1)) := by
      intro v
      rw [hdown, BitVec.sub_eq_add_neg, show u8 (-1) = -1 by decide]
    rw [runInstrs_replicate hdown', hn]

/-! EVAL1 and EVAL2. -/

theorem byte0_setWidth (b : Byte) : byte0 (b.setWidth 32) = b := by
  rw [byte0, BitVec.extractLsb'_setWidth_of_le (by decide)]
  exact BitVec.extractLsb'_eq_self

/-- The low byte of RES after a read of FT1 is the byte of f1 (R87, R120). -/
theorem byte0_res_lut1Rd (x : Int) (s : State) : byte0 (effect (.lut1Rd (u8 x)) s).res = u8 (f1 s x) :=
  (byte0_setWidth _).trans (u8_s8 _).symm

theorem byte0_res_lut2Rd (x y : Int) (s : State) : byte0 (effect (.lut2Rd (u8 x) (u8 y)) s).res = u8 (f2 s x y) :=
  (byte0_setWidth _).trans (u8_s8 _).symm

/-- Settles O60: each line is well formed, and its list of commands has the effect shown above. -/
theorem pseudoInstructionsDo : Obligations.PseudoInstructionsDo := by
  refine ⟨rfl, rfl, fun x s h h' => ?_, fun x y s hx hx' hy hy' => ?_, fun l s hl hv => ?_, fun s => ?_,
    fun n s h h' => ?_⟩
  · exact ⟨_, assemble_of_wellFormed ((isSigned8_iff x).2 ⟨h, h'⟩), exec_eq_effect _ s, byte0_res_lut1Rd x s⟩
  · refine ⟨_, assemble_of_wellFormed ?_, exec_eq_effect _ s, byte0_res_lut2Rd x y s⟩
    exact Bool.and_eq_true_iff.2 ⟨(isSigned8_iff x).2 ⟨hx, hx'⟩, (isSigned8_iff y).2 ⟨hy, hy'⟩⟩
  · obtain ⟨t, hrun, hframe, hread⟩ := runInstrs_loadTable hl s
    exact ⟨_, t, assemble_of_wellFormed (wellFormed_lut1Load hl hv), hl ▸ loadTable_eq_loadFirst l, hrun, hframe, hread⟩
  · obtain ⟨t, hrun, hframe, hread⟩ := runInstrs_loadTable length_identityTable s
    have hload : assemble (.lut1Load identityTable) = some (loadTable identityTable) :=
      assemble_of_wellFormed (wellFormed_lut1Load length_identityTable fun _ => identityTable_range)
    exact ⟨_, t, rfl, hload.symm, hrun, hframe, fun a => (hread a).trans (u8_identityTable a)⟩
  · have hwf := (isScroll_iff n).2 ⟨h, h'⟩
    have hx := runInstrs_scrollCopies (f := fun v => { s with xoff := v }) (up := .xoffInc) (down := .xoffDec)
      (fun _ => rfl) (fun _ => rfl) n s.xoff
    have hy := runInstrs_scrollCopies (f := fun v => { s with yoff := v }) (up := .yoffInc) (down := .yoffDec)
      (fun _ => rfl) (fun _ => rfl) n s.yoff
    exact ⟨_, _, assemble_of_wellFormed hwf, rfl, hx, assemble_of_wellFormed hwf, rfl, hy⟩

end Sys2Proof.Machine
end

section
/-! SUPPORT. `to_index` and `to_coord` as numbers, and that they are mutual inverses (spec 40_translator.md R100 to
R105). -/
namespace Sys2Proof.Machine

theorem toNat_flipRow (b : Byte) : (flipRow b).toNat = (256 - b.toNat) % 256 := by
  simp [flipRow]

/-- The column of an index. -/
theorem toNat_lowByte (i : Index) : (i.extractLsb' 0 8).toNat = i.toNat % 256 := by
  simp

/-- The row of an index. -/
theorem toNat_highByte (i : Index) : (i.extractLsb' 8 8).toNat = i.toNat / 256 := by
  have hlt : i.toNat < 65536 := i.isLt
  rw [BitVec.extractLsb'_toNat, Nat.shiftRight_eq_div_pow]
  omega

/-- The low byte of an index is the corner of its x (R102). -/
theorem corner_toCoord_fst (i : Index) : corner (toCoord i).1 = i.extractLsb' 0 8 := corner_uncorner _

/-- The high byte of an index is the flipped corner of its y (R102). -/
theorem corner_toCoord_snd (i : Index) : corner (toCoord i).2 = flipRow (i.extractLsb' 8 8) := corner_uncorner _

theorem toNat_corner_toCoord_fst (i : Index) : (corner (toCoord i).1).toNat = i.toNat % 256 := by
  rw [corner_toCoord_fst, toNat_lowByte]

theorem toNat_corner_toCoord_snd (i : Index) : (corner (toCoord i).2).toNat = (256 - i.toNat / 256) % 256 := by
  rw [corner_toCoord_snd, toNat_flipRow, toNat_highByte]

theorem toNat_toIndex (x y : Byte) :
    (toIndex x y).toNat = (256 - (corner y).toNat) % 256 * 256 + (corner x).toNat := by
  rw [toIndex, toNat_append_bytes, toNat_flipRow]

@[simp] theorem toIndex_toCoord (i : Index) : toIndex (toCoord i).1 (toCoord i).2 = i := by
  rw [toIndex, corner_toCoord_fst, corner_toCoord_snd, flipRow_flipRow, index_of_halves]

@[simp] theorem toCoord_toIndex (x y : Byte) : toCoord (toIndex x y) = (x, y) := by
  simp only [toCoord, toIndex, lowByte_append, highByte_append, flipRow_flipRow, uncorner_corner]

theorem toIndex_inj {x y x' y' : Byte} (h : toIndex x y = toIndex x' y') : x = x' ∧ y = y' := by
  have hcoord := congrArg toCoord h
  rwa [toCoord_toIndex, toCoord_toIndex, Prod.mk.injEq] at hcoord

/-- A signed byte is its corner less 128: on signed values the corner does not wrap. -/
theorem s8_eq_corner_sub (v : Byte) : s8 v = (corner v).toNat - 128 := by
  have hcorner := toNat_corner v
  have hlow : -128 ≤ s8 v := BitVec.le_toInt v
  have hhigh : s8 v < 128 := BitVec.toInt_lt
  omega

/-- Settles O24: the corner laws over all bytes, and the two halves of an index as numbers. -/
theorem cornerAndIndexFormulas : Obligations.CornerAndIndexFormulas :=
  ⟨fun v => ⟨toNat_corner v, corner_eq_xor v⟩, s8_uncorner, uncorner_corner, corner_uncorner, by decide, toNat_toIndex,
    fun i => ⟨toNat_corner_toCoord_fst i, toNat_corner_toCoord_snd i⟩⟩

/-- Settles O25: the corner and the flip each undo themselves, half by half of the index; the rest follows. -/
theorem translatorIsBijection : Obligations.TranslatorIsBijection :=
  ⟨toIndex_toCoord, toCoord_toIndex, fun _ _ _ _ => toIndex_inj, fun i => ⟨_, _, toIndex_toCoord i⟩⟩

/-- Settles O26: each coordinate is its corner less 128, and the corners are known from the index. -/
theorem translatorGeometry : Obligations.TranslatorGeometry := by
  intro i
  have hlt : i.toNat < 65536 := i.isLt
  rw [s8_eq_corner_sub, s8_eq_corner_sub, toNat_corner_toCoord_fst, toNat_corner_toCoord_snd]
  refine ⟨rfl, ?_, ?_, ?_⟩ <;> omega

end Sys2Proof.Machine
end

section
/-! SUPPORT. The words of a row of the opcode map, and what XLT.C2I and XLT.I2C leave in RES (spec 30_encoding.md R81,
R82, 40_translator.md R106, R107). -/
namespace Sys2Proof.Machine

/-- A format reads its command from the words of its row, and rejects every other word with its opcode. -/
theorem encodedAs_of_mem {f : Format} {mask value : Word} (hf : f ∈ formats) (hmask : f.row.mask = mask)
    (hvalue : f.row.value = value) : EncodedAs mask value f.command := by
  subst hmask hvalue
  intro cw
  constructor
  · intro hm
    obtain ⟨ho, hr⟩ := (masked_row_iff hf cw).1 hm
    exact (decode_of_mem hf ho).trans ((whenZero_ok_iff _ _ _).2 ⟨hr, rfl⟩)
  · intro hop hm
    have ho : opField cw = f.op := hop.trans (opField_row f)
    exact (decode_reservedBit_iff cw).2 ⟨f, hf, ho, fun hr => hm ((masked_row_iff hf cw).2 ⟨ho, hr⟩)⟩

theorem encodedAs_xltC2I : EncodedAs 0xFFFF0000 0x10000000 fun cw => .xltC2I (byte1 cw) (byte0 cw) :=
  encodedAs_of_mem (f := ⟨"XLT.C2I", 0x10, 16, fun cw => .xltC2I (byte1 cw) (byte0 cw)⟩) (by simp [formats])
    (by decide) (by decide)

theorem encodedAs_xltI2C : EncodedAs 0xFFFF0000 0x11000000 fun cw => .xltI2C (idxField cw) :=
  encodedAs_of_mem (f := ⟨"XLT.I2C", 0x11, 16, fun cw => .xltI2C (idxField cw)⟩) (by simp [formats])
    (by decide) (by decide)

/-! The layout of RES after XLT.I2C: two bytes below a zero halfword. -/

theorem byte1_pair (x y : Byte) : byte1 (0#16 ++ x ++ y) = x := byte1_bytes 0 0 x y

theorem byte0_pair (x y : Byte) : byte0 (0#16 ++ x ++ y) = y := byte0_bytes 0 0 x y

theorem toNat_pair (x y : Byte) : (0#16 ++ x ++ y).toNat = x.toNat * 256 + y.toNat := by
  have hx : (0#16 ++ x).toNat = x.toNat := by
    rw [BitVec.toNat_append, BitVec.toNat_zero, Nat.zero_shiftLeft, Nat.zero_or]
  rw [BitVec.toNat_append, hx, ← BitVec.toNat_append, toNat_append_bytes]

theorem byte1_res_xltI2C (i : Index) (s : State) : byte1 (effect (.xltI2C i) s).res = (toCoord i).1 := byte1_pair _ _

theorem byte0_res_xltI2C (i : Index) (s : State) : byte0 (effect (.xltI2C i) s).res = (toCoord i).2 := byte0_pair _ _

/-- XLT.C2I gives an index back from its coordinate (R103, R107). -/
theorem effect_xltC2I_toCoord (i : Index) (s : State) :
    effect (.xltC2I (toCoord i).1 (toCoord i).2) s = setRes (i.setWidth 32) s := by
  rw [effect, toIndex_toCoord]

/-- Settles O27: the effect is `setRes` of the zero-extended index; the corner cases are evaluated. -/
theorem xltC2IResult : Obligations.XltC2IResult := by
  refine ⟨encodedAs_xltC2I, fun x y s => ?_, by decide⟩
  exact ⟨_, exec_eq_effect _ s, rfl, BitVec.toNat_setWidth_of_le (by decide)⟩

/-- Settles O28: the effect is `setRes` of the two bytes side by side, which XLT.C2I reads back as the coordinate; the
corner cases are evaluated. -/
theorem xltI2CResult : Obligations.XltI2CResult := by
  refine ⟨encodedAs_xltI2C, fun i s => ?_, by decide⟩
  refine ⟨_, exec_eq_effect _ s, rfl, toNat_pair _ _, byte1_res_xltI2C i s, byte0_res_xltI2C i s, ?_⟩
  rw [byte1_res_xltI2C, byte0_res_xltI2C, exec_eq_effect, effect_xltC2I_toCoord]
  rfl

end Sys2Proof.Machine
end

section
/-! SUPPORT. The words of the lookup engine's commands, and what an entry of a table reads as after a write or a refill
(spec 41_lookup.md R123 to R129, 30_encoding.md R81). -/
namespace Sys2Proof.Machine

theorem encodedAs_lut1Rd : EncodedAs 0xFFFFFF00 0x20000000 fun cw => .lut1Rd (byte0 cw) :=
  encodedAs_of_mem (f := ⟨"LUT1.RD", 0x20, 8, fun cw => .lut1Rd (byte0 cw)⟩) (by simp [formats]) (by decide) (by decide)

theorem encodedAs_lut2Rd : EncodedAs 0xFFFF0000 0x21000000 fun cw => .lut2Rd (byte1 cw) (byte0 cw) :=
  encodedAs_of_mem (f := ⟨"LUT2.RD", 0x21, 16, fun cw => .lut2Rd (byte1 cw) (byte0 cw)⟩) (by simp [formats])
    (by decide) (by decide)

theorem encodedAs_lut1Wr : EncodedAs 0xFFFF0000 0x22000000 fun cw => .lut1Wr (byte1 cw) (byte0 cw) :=
  encodedAs_of_mem (f := ⟨"LUT1.WR", 0x22, 16, fun cw => .lut1Wr (byte1 cw) (byte0 cw)⟩) (by simp [formats])
    (by decide) (by decide)

theorem encodedAs_lut2Wr : EncodedAs 0xFF000000 0x23000000 fun cw => .lut2Wr (byte2 cw) (byte1 cw) (byte0 cw) :=
  encodedAs_of_mem (f := ⟨"LUT2.WR", 0x23, 24, fun cw => .lut2Wr (byte2 cw) (byte1 cw) (byte0 cw)⟩) (by simp [formats])
    (by decide) (by decide)

theorem encodedAs_rand1 : EncodedAs 0xFFFFFFFF 0x24000000 fun _ => .rand1 :=
  encodedAs_of_mem (f := ⟨"RAND1", 0x24, 0, fun _ => .rand1⟩) (by simp [formats]) (by decide) (by decide)

theorem encodedAs_rand2 : EncodedAs 0xFFFFFFFF 0x25000000 fun _ => .rand2 :=
  encodedAs_of_mem (f := ⟨"RAND2", 0x25, 0, fun _ => .rand2⟩) (by simp [formats]) (by decide) (by decide)

variable (s : State)

theorem readFt2_writeFt2 (r c v r' c' : Byte) :
    readFt2 (writeFt2 r c v s) r' c' = if (r', c') = (r, c) then v else readFt2 s r' c' := by
  simp only [readFt2, writeFt2_ft2, readTable_writeTable, ft2Address_inj, Prod.mk.injEq]

/-- A refill of a whole table puts the `k`-th draw in its `k`-th entry. -/
theorem readTable_refill (m : Table) (g : RngState) {size k : Nat} (h : k < size) :
    readTable (refillFrom size 0 m g) k = drawnByte (afterDraws k g) := by
  rw [← readTable_refillFrom_inside size 0 m g h, Nat.zero_add]

theorem readTable_refill_of_size_le (m : Table) (g : RngState) {size k : Nat} (h : size ≤ k) :
    readTable (refillFrom size 0 m g) k = readTable m k :=
  readTable_refillFrom_outside size 0 m g (.inr (by rwa [Nat.zero_add]))

theorem readFt1_refillFt1 (a : Byte) : readFt1 (refillFt1 s) a = drawnByte (afterDraws a.toNat s.rng) := by
  rw [readFt1, refillFt1_ft1]
  exact readTable_refill s.ft1 s.rng a.isLt

/-- The refill of FT2, row after row, is one refill of its 65536 entries. -/
theorem refillFt2_ft2_whole : (refillFt2 s).ft2 = refillFrom ft2Size 0 s.ft2 s.rng := by
  rw [refillFt2_ft2, refillRows_whole]

theorem refillFt2_rng_whole : (refillFt2 s).rng = afterDraws ft2Size s.rng := by
  rw [refillFt2_rng, afterRows_whole]

theorem readFt2_refillFt2 (r c : Byte) :
    readFt2 (refillFt2 s) r c = drawnByte (afterDraws (ft2Address r c) s.rng) := by
  rw [readFt2, refillFt2_ft2_whole]
  exact readTable_refill s.ft2 s.rng (ft2Address_lt r c)

end Sys2Proof.Machine
end

section
/-! SUPPORT. What each command of the lookup engine does (spec 41_lookup.md R123 to R129). -/
namespace Sys2Proof.Machine

/-- Settles O29: the effect is `setRes` of the entry zero-extended, whose low byte is the entry. -/
theorem lut1RdResult : Obligations.Lut1RdResult := by
  refine ⟨encodedAs_lut1Rd, fun a s => ⟨_, exec_eq_effect _ s, rfl, BitVec.toNat_setWidth_of_le (by decide), ?_⟩⟩
  rintro x rfl
  exact congrArg s8 (byte0_setWidth _)

/-- Settles O30: as O29, with the entry named by row and column; row-major numbers of swapped pairs differ. -/
theorem lut2RdResult : Obligations.Lut2RdResult := by
  refine ⟨encodedAs_lut2Rd,
    fun r c s => ⟨_, exec_eq_effect _ s, rfl, BitVec.toNat_setWidth_of_le (by decide), ?_⟩, ?swapped, by decide⟩
  · rintro x y rfl rfl
    exact congrArg s8 (byte0_setWidth _)
  case swapped => exact fun r c hne heq => hne (ft2Address_inj.1 heq).1

/-- Settles O31: a read of FT1 after a write to one entry, at that entry and at every other. -/
theorem lut1WrWritesOneEntry : Obligations.Lut1WrWritesOneEntry := by
  refine ⟨encodedAs_lut1Wr, fun a v s => ⟨_, exec_eq_effect _ s, rfl, ?_, ?_⟩, by decide, ?minusTwo⟩
  · exact readTable_writeTable_same s.ft1 a.toNat v
  · exact fun n hn => readTable_writeTable_other s.ft1 v hn
  case minusTwo =>
    intro s t hexec
    obtain rfl := (exec_next_iff _ s t).1 hexec
    have hread : readFt1 (writeFt1 5 0xFE s) (u8 5) = 0xFE :=
      (readFt1_writeFt1 5 0xFE s (u8 5)).trans (if_pos (by decide))
    rw [effect, f1, hread]
    decide

/-- Settles O32: a read of FT2 after a write to one entry, by row and column and by row-major number. -/
theorem lut2WrWritesOneEntry : Obligations.Lut2WrWritesOneEntry := by
  refine ⟨encodedAs_lut2Wr, fun r c v s => ⟨_, exec_eq_effect _ s, rfl, ?_, ?_, ?_⟩, by decide⟩
  · exact (readFt2_writeFt2 s r c v r c).trans (if_pos rfl)
  · exact fun r' c' hne => (readFt2_writeFt2 s r c v r' c').trans (if_neg hne)
  · exact fun n hn => readTable_writeTable_other s.ft2 v hn

/-- Settles O33: the refill of FT1 entry by entry, its draws, and the numbers above it. -/
theorem rand1Fills256Draws : Obligations.Rand1Fills256Draws := by
  refine ⟨encodedAs_rand1, fun s => ⟨_, exec_eq_effect _ s, rfl, readFt1_refillFt1 s, refillFt1_rng s, fun n hn => ?_⟩⟩
  rw [effect, refillFt1_ft1]
  exact readTable_refill_of_size_le s.ft1 s.rng hn

/-- Settles O34: the refill of FT2 entry by entry in row-major order, its draws, and the numbers above it. -/
theorem rand2Fills65536Draws : Obligations.Rand2Fills65536Draws := by
  refine ⟨encodedAs_rand2,
    fun s => ⟨_, exec_eq_effect _ s, rfl, fun r c => ?_, refillFt2_rng_whole s, fun n hn => ?_⟩⟩
  · rw [Nat.mul_comm 256]
    exact readFt2_refillFt2 s r c
  · rw [effect, refillFt2_ft2_whole]
    exact readTable_refill_of_size_le s.ft2 s.rng hn

end Sys2Proof.Machine
end

section
/-! SUPPORT. Which states have the same tables, generator, mode and configuration: what each part of a frame does to
them, so that a frame's only change beside MODE is its reseed (spec 41_lookup.md R130, R131, 45_frame.md R233). -/
namespace Sys2Proof.Machine

variable {s t u : State}

theorem SameTables.refl (s : State) : SameTables s s := ⟨rfl, rfl, rfl, rfl, rfl⟩

theorem SameTables.trans (h : SameTables s t) (h' : SameTables t u) : SameTables s u := by
  obtain ⟨hft1, hft2, hrng, hmode, hcfg⟩ := h
  obtain ⟨hft1', hft2', hrng', hmode', hcfg'⟩ := h'
  exact ⟨hft1.trans hft1', hft2.trans hft2', hrng.trans hrng', hmode.trans hmode', hcfg.trans hcfg'⟩

theorem SameTables.symm (h : SameTables s t) : SameTables t s := by
  obtain ⟨hft1, hft2, hrng, hmode, hcfg⟩ := h
  exact ⟨hft1.symm, hft2.symm, hrng.symm, hmode.symm, hcfg.symm⟩

theorem SameTables.rng : SameTables s t → s.rng = t.rng
  | ⟨_, _, h, _, _⟩ => h

theorem SameTables.mode : SameTables s t → s.mode = t.mode
  | ⟨_, _, _, h, _⟩ => h

theorem SameTables.cfg : SameTables s t → s.cfg = t.cfg
  | ⟨_, _, _, _, h⟩ => h

/-! What leaves all of them alone. -/

theorem sameTables_issue (ws : List FbWrite) (s : State) : SameTables (issue ws s) s := ⟨rfl, rfl, rfl, rfl, rfl⟩

theorem sameTables_emitRotate (s : State) : SameTables (emitRotate s) s := ⟨rfl, rfl, rfl, rfl, rfl⟩

theorem sameTables_frameScroll (held pressed : Byte) (s : State) : SameTables (frameScroll held pressed s) s := by
  simp [SameTables]

theorem sameTables_frameToggle (pressed : Byte) (s : State) : SameTables (frameToggle pressed s) s := by
  simp [SameTables]

theorem sameTables_framePattern (s : State) : SameTables (framePattern s) s := by
  cases h : s.chk with
  | true => rw [framePattern_checker s h]; exact sameTables_issue _ s
  | false => rw [framePattern_stripe s h]; exact sameTables_issue _ s

theorem sameTables_drawActive (s : State) : SameTables (drawActive s) s := by
  unfold drawActive
  split <;> exact sameTables_issue _ s

/-! What changes them, but to the same from the same. -/

theorem SameTables.writeFt1 (h : SameTables s t) (a v : Byte) : SameTables (writeFt1 a v s) (writeFt1 a v t) := by
  obtain ⟨hft1, hrest⟩ := h
  exact ⟨by rw [writeFt1_ft1, writeFt1_ft1, hft1], hrest⟩

theorem SameTables.writeFt2 (h : SameTables s t) (r c v : Byte) :
    SameTables (writeFt2 r c v s) (writeFt2 r c v t) := by
  obtain ⟨hft1, hft2, hrest⟩ := h
  exact ⟨hft1, by rw [writeFt2_ft2, writeFt2_ft2, hft2], hrest⟩

theorem SameTables.refillFt1 (h : SameTables s t) : SameTables (refillFt1 s) (refillFt1 t) := by
  obtain ⟨hft1, hft2, hrng, hrest⟩ := h
  exact ⟨by rw [refillFt1_ft1, refillFt1_ft1, hft1, hrng], hft2, by rw [refillFt1_rng, refillFt1_rng, hrng], hrest⟩

theorem SameTables.refillFt2 (h : SameTables s t) : SameTables (refillFt2 s) (refillFt2 t) := by
  obtain ⟨hft1, hft2, hrng, hrest⟩ := h
  exact ⟨hft1, by rw [refillFt2_ft2, refillFt2_ft2, hft2, hrng], by rw [refillFt2_rng, refillFt2_rng, hrng], hrest⟩

theorem SameTables.advanceMode (h : SameTables s t) : SameTables (advanceMode s) (advanceMode t) := by
  obtain ⟨hft1, hft2, hrng, hmode, hcfg⟩ := h
  exact ⟨hft1, hft2, hrng, congrArg nextMode hmode, hcfg⟩

theorem SameTables.frameAdvance (h : SameTables s t) (pressed : Byte) :
    SameTables (frameAdvance pressed s) (frameAdvance pressed t) := by
  unfold Machine.frameAdvance
  rw [h.cfg]
  split
  · exact h.advanceMode
  · exact h

theorem SameTables.reseedActive (h : SameTables s t) : SameTables (reseedActive s) (reseedActive t) := by
  unfold Machine.reseedActive
  rw [h.mode]
  split
  · exact h.refillFt2
  · exact h.refillFt1
  · exact h.refillFt1

/-! The reseed of a frame. -/

/-- The reseed branch of a frame runs: in a visualiser mode, with BTN_RESEED triggered and BTN_RESET not (R232). -/
def Reseeds (held pressed : Byte) (s : State) : Prop :=
  s.mode ≠ .testPattern ∧ triggered held pressed s.cfg.btnReset s.cfg.trigReset = false ∧
    triggered held pressed s.cfg.btnReseed s.cfg.trigReseed = true

theorem SameTables.reseeds_iff (h : SameTables s t) (held pressed : Byte) :
    Reseeds held pressed s ↔ Reseeds held pressed t := by
  unfold Reseeds
  rw [h.mode, h.cfg]

variable {held pressed : Byte}

/-- A branch that reseeds leaves the tables of the reseeded state: the FILL after it issues writes only. -/
theorem sameTables_frameBranch_of_reseeds (h : Reseeds held pressed s) :
    SameTables (frameBranch held pressed s) (reseedActive s) := by
  obtain ⟨-, hreset, hreseed⟩ := h
  rw [frameBranch_reseed held pressed s hreset hreseed]
  exact sameTables_issue _ _

theorem sameTables_frameBranch_of_not_reseeds (hm : s.mode ≠ .testPattern) (h : ¬Reseeds held pressed s) :
    SameTables (frameBranch held pressed s) s := by
  cases hreset : triggered held pressed s.cfg.btnReset s.cfg.trigReset with
  | true => rw [frameBranch_reset held pressed s hreset]; exact sameTables_issue _ s
  | false =>
    cases hreseed : triggered held pressed s.cfg.btnReseed s.cfg.trigReseed with
    | true => exact absurd ⟨hm, hreset, hreseed⟩ h
    | false => rw [frameBranch_draw held pressed s hreset hreseed]; exact sameTables_drawActive s

/-- A frame that reseeds leaves the tables of the reseeded state after the mode advance (R233). -/
theorem sameTables_runFrame_of_reseeds (h : Reseeds held pressed (frameAdvance pressed s)) :
    SameTables (runFrame held pressed s) (reseedActive (frameAdvance pressed s)) := by
  have hscroll := sameTables_frameScroll held pressed (frameAdvance pressed s)
  have hbranch := sameTables_frameBranch_of_reseeds ((hscroll.reseeds_iff held pressed).2 h)
  rw [runFrame_eq, frameDispatch_visualiser held pressed _ h.1]
  exact (sameTables_emitRotate _).trans (hbranch.trans hscroll.reseedActive)

/-- Every other frame leaves the tables of the state after the mode advance. -/
theorem sameTables_runFrame_of_not_reseeds (h : ¬Reseeds held pressed (frameAdvance pressed s)) :
    SameTables (runFrame held pressed s) (frameAdvance pressed s) := by
  obtain ⟨-, hrun⟩ | ⟨hm, hrun⟩ := runFrame_cases held pressed s
  · rw [hrun]
    exact (sameTables_emitRotate _).trans ((sameTables_framePattern _).trans (sameTables_frameToggle pressed _))
  · have hscroll := sameTables_frameScroll held pressed (frameAdvance pressed s)
    have hbranch := sameTables_frameBranch_of_not_reseeds (hscroll.mode ▸ hm)
      (mt (hscroll.reseeds_iff held pressed).1 h)
    rw [hrun]
    exact (sameTables_emitRotate _).trans (hbranch.trans hscroll)

theorem SameTables.runFrame (h : SameTables s t) (held pressed : Byte) :
    SameTables (runFrame held pressed s) (runFrame held pressed t) := by
  have hadvance := h.frameAdvance pressed
  by_cases hr : Reseeds held pressed (Machine.frameAdvance pressed s)
  · have hs := sameTables_runFrame_of_reseeds hr
    have ht := sameTables_runFrame_of_reseeds ((hadvance.reseeds_iff held pressed).1 hr)
    exact hs.trans (hadvance.reseedActive.trans ht.symm)
  · have hs := sameTables_runFrame_of_not_reseeds hr
    have ht := sameTables_runFrame_of_not_reseeds (mt (hadvance.reseeds_iff held pressed).2 hr)
    exact hs.trans (hadvance.trans ht.symm)

end Sys2Proof.Machine
end

section
/-! SUPPORT. Which commands draw (spec 41_lookup.md R131). -/
namespace Sys2Proof.Machine

theorem effect_rng_of_ne {i : Instr} (h1 : i ≠ .rand1) (h2 : i ≠ .rand2)
    (hframe : ∀ held pressed, i ≠ .frame held pressed) (s : State) : (effect i s).rng = s.rng := by
  cases i with
  | rand1 => exact absurd rfl h1
  | rand2 => exact absurd rfl h2
  | frame held pressed => exact absurd rfl (hframe held pressed)
  | _ => rfl

variable {held pressed : Byte} {s : State}

theorem runFrame_rng_of_not_reseeds (h : ¬Reseeds held pressed (frameAdvance pressed s)) :
    (runFrame held pressed s).rng = s.rng :=
  (sameTables_runFrame_of_not_reseeds h).rng.trans (frameAdvance_rng pressed s)

/-- A reseed in ViewTwoArgFunction draws 65536 times (R233, R129). -/
theorem runFrame_rng_of_view (h : Reseeds held pressed (frameAdvance pressed s))
    (hm : (frameAdvance pressed s).mode = .viewTwoArgFunction) :
    (runFrame held pressed s).rng = afterDraws ft2Size s.rng := by
  rw [(sameTables_runFrame_of_reseeds h).rng, reseedActive_view _ hm, refillFt2_rng_whole, frameAdvance_rng]

/-- A reseed in VisualizeOneArgFunction draws 256 times (R233, R128). -/
theorem runFrame_rng_of_visualize (h : Reseeds held pressed (frameAdvance pressed s))
    (hm : (frameAdvance pressed s).mode = .visualizeOneArgFunction) :
    (runFrame held pressed s).rng = afterDraws ft1Size s.rng := by
  rw [(sameTables_runFrame_of_reseeds h).rng, reseedActive_visualize _ hm, refillFt1_rng, frameAdvance_rng]

/-- A frame after its mode advance reseeds with the triggers of the session and the mode the frame renders with. -/
theorem reseeds_frameAdvance_iff :
    Reseeds held pressed (frameAdvance pressed s) ↔
      frameMode pressed s ≠ .testPattern ∧ triggered held pressed s.cfg.btnReset s.cfg.trigReset = false ∧
        triggered held pressed s.cfg.btnReseed s.cfg.trigReseed = true := by
  rw [Reseeds, frameAdvance_cfg, frameAdvance_mode, frameMode]

/-- Settles O15: a frame draws as often as the table its mode reseeds has entries, and not at all if it does not
reseed. -/
theorem onlyRandomisationDraws : Obligations.OnlyRandomisationDraws := by
  refine ⟨fun i s t hexec h1 h2 hframe => ?_, fun s t hexec => ?_, fun s t hexec => ?_,
    fun held pressed s t hexec => ?_⟩ <;>
  obtain rfl := (exec_next_iff _ s t).1 hexec
  · exact effect_rng_of_ne h1 h2 hframe s
  · exact refillFt1_rng s
  · exact refillFt2_rng_whole s
  · have hmode : (frameAdvance pressed s).mode = frameMode pressed s := frameAdvance_mode pressed s
    split
    next htrig =>
      cases hm : frameMode pressed s with
      | viewTwoArgFunction =>
        exact runFrame_rng_of_view (reseeds_frameAdvance_iff.2 ⟨by simp [hm], htrig⟩) (hmode.trans hm)
      | visualizeOneArgFunction =>
        exact runFrame_rng_of_visualize (reseeds_frameAdvance_iff.2 ⟨by simp [hm], htrig⟩) (hmode.trans hm)
      | testPattern => exact runFrame_rng_of_not_reseeds fun h => (reseeds_frameAdvance_iff.1 h).1 hm
    next htrig => exact runFrame_rng_of_not_reseeds fun h => htrig (reseeds_frameAdvance_iff.1 h).2

end Sys2Proof.Machine
end

section
/-! SUPPORT. The tables and the generator after a list of commands, and after a reset (spec 41_lookup.md R130,
70_reset_and_hazards.md R290). -/
namespace Sys2Proof.Machine

variable {s t : State}

/-- A command makes the same tables, generator, mode and configuration of the same, whatever else differs. -/
theorem SameTables.effect (h : SameTables s t) (i : Instr) : SameTables (effect i s) (effect i t) := by
  cases i with
  | frame held pressed => exact h.runFrame held pressed
  | lut1Wr a v => exact h.writeFt1 a v
  | lut2Wr r c v => exact h.writeFt2 r c v
  | rand1 => exact h.refillFt1
  | rand2 => exact h.refillFt2
  | modeAdv => exact h.advanceMode
  | _ =>
    obtain ⟨hft1, hft2, hrng, hmode, hcfg⟩ := h
    exact ⟨hft1, hft2, hrng, hmode, hcfg⟩

theorem sameTables_runInstrs {is : List Instr} {s' t' : State} (h : SameTables s t) (hs : runInstrs is s = .next s')
    (ht : runInstrs is t = .next t') : SameTables s' t' := by
  induction is generalizing s t with
  | nil => cases hs; cases ht; exact h
  | cons i is ih =>
    rw [runInstrs_cons] at hs ht
    exact ih (h.effect i) hs ht

/-! The three ends of the reset sequence. -/

section Reset

variable {req : ResetRequest}

theorem resetSequence_failed (h : portOk req.port = false) (s : State) :
    resetSequence req s = freeTables (setErrConfig true (resetRegisters req s)) := by
  simp [resetSequence, h]

theorem resetSequence_unspecified (h : portOk req.port = true)
    (hfill : (samplePort req.port).resetTableFill = .unspecified) (s : State) :
    resetSequence req s = freeTables (setErrConfig false (resetRegisters req s)) := by
  simp [resetSequence, h, resetFill, hfill]

theorem resetSequence_filled (h : portOk req.port = true)
    (hfill : (samplePort req.port).resetTableFill = .fillFt1ThenFt2) (s : State) :
    resetSequence req s = refillFt2 (refillFt1 (setErrConfig false (resetRegisters req s))) := by
  simp [resetSequence, h, resetFill, hfill]

end Reset

/-- The generator after a reset is RNG_INIT(seed) after the draws of the fill, so the state before it has no part in
it. -/
theorem hostReset_rng_eq (req : ResetRequest) (s t : State) : (hostReset req s).rng = (hostReset req t).rng := by
  unfold hostReset
  cases h : portOk req.port with
  | false => simp [resetSequence_failed h]
  | true =>
    cases hfill : (samplePort req.port).resetTableFill with
    | unspecified => simp [resetSequence_unspecified h hfill]
    | fillFt1ThenFt2 => simp [resetSequence_filled h hfill]

/-- A refill of both tables leaves the same tables whatever they held, since it writes every entry. -/
theorem sameTables_refillBoth (hs : Canonical s) (ht : Canonical t) (hrng : s.rng = t.rng) (hmode : s.mode = t.mode)
    (hcfg : s.cfg = t.cfg) : SameTables (refillFt2 (refillFt1 s)) (refillFt2 (refillFt1 t)) := by
  have hft1 : (refillFt1 s).ft1 = (refillFt1 t).ft1 := by
    rw [refillFt1_ft1, refillFt1_ft1, hrng]
    exact refillFrom_whole_eq t.rng hs.ft1 ht.ft1
  have hrng1 : (refillFt1 s).rng = (refillFt1 t).rng := by rw [refillFt1_rng, refillFt1_rng, hrng]
  have hft2 : (refillFt2 (refillFt1 s)).ft2 = (refillFt2 (refillFt1 t)).ft2 := by
    rw [refillFt2_ft2_whole, refillFt2_ft2_whole, hrng1]
    exact refillFrom_whole_eq _ hs.ft2 ht.ft2
  exact ⟨hft1, hft2, by rw [refillFt2_rng, refillFt2_rng, hrng1], hmode, hcfg⟩

/-- Two resets with one seed, one accepted configuration and the default fill (R290). -/
theorem sameTables_hostReset {req : ResetRequest} (hs : Canonical s) (ht : Canonical t) (hok : portOk req.port = true)
    (hfill : (samplePort req.port).resetTableFill = .fillFt1ThenFt2) :
    SameTables (hostReset req s) (hostReset req t) := by
  have hregisters {u : State} (hu : Canonical u) :
      Canonical (setErrConfig false (resetRegisters req (forgetCells u))) :=
    (canonical_forgetCells hu).of_same rfl rfl rfl
  rw [hostReset, hostReset, resetSequence_filled hok hfill, resetSequence_filled hok hfill]
  exact sameTables_refillBoth (hregisters hs) (hregisters ht) rfl rfl rfl

/-- Settles O35: by induction on the commands, each of which makes the same of the same; a reset's fill writes every
entry of both tables from RNG_INIT(seed). -/
theorem randomisationIsReproducible : Obligations.RandomisationIsReproducible := by
  refine ⟨fun is s t s' t' => sameTables_runInstrs, hostReset_rng_eq, fun req s t hs ht hok hfill => ?_⟩
  exact sameTables_hostReset hs.canonical ht.canonical hok (congrArg (·.getD .fillFt1ThenFt2) hfill)

end Sys2Proof.Machine
end

section
/-! SUPPORT. A paint of every cell in ascending index order, by a colour for each cell number, and the palette as such a
colour (spec 00_scope.md R9, 20_memory.md R55, 42_pattern.md R151 to R153). -/
namespace Sys2Proof.Machine

variable (s : State) (colour : Nat → Colour)

theorem planeIndices_map_eq_ascendingWrites :
    (planeIndices.map fun i => (i, colour i.toNat)) = ascendingWrites colour := by
  rw [planeIndices_eq, List.map_map, ascendingWrites]
  refine List.map_congr_left fun k hk => ?_
  rw [Function.comp_apply, BitVec.toNat_ofNat, Nat.mod_eq_of_lt (List.mem_range.1 hk)]

theorem readFb_issue_ascendingWrites (i : Index) :
    readFb (issue (ascendingWrites colour) s) i = some (colour i.toNat) := by
  rw [readFb, issue_fb, ← planeIndices_map_eq_ascendingWrites, lookup_applyWrites_plane]

/-- With `P ≥ 1`, which every accepted configuration has (R252), no colour of the palette is the free value of log 13. -/
theorem paletteAt_eq_getElem {cfg : SessionConfig} (h : 0 < cfg.palette.length) (n : Nat) :
    paletteAt cfg n = cfg.palette[n % cfg.palette.length]'(Nat.mod_lt _ h) := by
  rw [paletteAt, paletteSize, List.getElem?_eq_getElem (Nat.mod_lt n h), Option.getD_some]

/-- What a paint leaves that gives the cell `k` the colour `PALETTE[n k mod P]`. -/
theorem issue_paletteAt (h : 0 < s.cfg.palette.length) (n : Nat → Nat) :
    (∀ i, readFb (issue (ascendingWrites fun k => paletteAt s.cfg (n k)) s) i =
      some (s.cfg.palette[n i.toNat % s.cfg.palette.length]'(Nat.mod_lt _ h))) ∧
    (issue (ascendingWrites fun k => paletteAt s.cfg (n k)) s).fbWrites =
      s.fbWrites ++ ascendingWrites fun k => s.cfg.palette[n k % s.cfg.palette.length]'(Nat.mod_lt _ h) := by
  simp only [← paletteAt_eq_getElem h]
  exact ⟨readFb_issue_ascendingWrites s _, issue_fbWrites s _⟩

theorem stripeWrites_eq :
    stripeWrites s = ascendingWrites fun k => paletteAt s.cfg (k + patternOffset s) :=
  planeIndices_map_eq_ascendingWrites fun k => paletteAt s.cfg (k + patternOffset s)

theorem checkerWrites_eq :
    checkerWrites s = ascendingWrites fun k => paletteAt s.cfg (k + patternOffset s + k / 256) :=
  planeIndices_map_eq_ascendingWrites fun k => paletteAt s.cfg (k + patternOffset s + k / 256)

end Sys2Proof.Machine
end

section
/-! SUPPORT. The words of the pattern commands and what each paints (spec 42_pattern.md R151 to R153, 30_encoding.md
R81). -/
namespace Sys2Proof.Machine

theorem encodedAs_patStripe : EncodedAs 0xFFFFFFFF 0x31000000 fun _ => .patStripe :=
  encodedAs_of_mem (f := ⟨"PAT.STRIPE", 0x31, 0, fun _ => .patStripe⟩) (by simp [formats]) (by decide) (by decide)

theorem encodedAs_patChecker : EncodedAs 0xFFFFFFFF 0x32000000 fun _ => .patChecker :=
  encodedAs_of_mem (f := ⟨"PAT.CHECKER", 0x32, 0, fun _ => .patChecker⟩) (by simp [formats]) (by decide) (by decide)

/-- Settles O36: PAT.STRIPE issues one paint by the palette, with the number `k + off` for the cell `k`. -/
theorem patStripePaintsStripes : Obligations.PatStripePaintsStripes := by
  refine ⟨encodedAs_patStripe, fun s => ⟨_, exec_eq_effect _ s, rfl, fun off hoff h => ?_⟩⟩
  obtain rfl : off = patternOffset s := hoff
  rw [effect, paintStripe_eq, stripeWrites_eq]
  exact issue_paletteAt s h fun k => k + patternOffset s

/-- Settles O37: as O36, with the number `k + off + k div 256`. -/
theorem patCheckerPaintsCheckerboard : Obligations.PatCheckerPaintsCheckerboard := by
  refine ⟨encodedAs_patChecker, fun s => ⟨_, exec_eq_effect _ s, rfl, fun off hoff h => ?_⟩⟩
  obtain rfl : off = patternOffset s := hoff
  rw [effect, paintChecker_eq, checkerWrites_eq]
  exact issue_paletteAt s h fun k => k + patternOffset s + k / 256

end Sys2Proof.Machine
end

section
/-! SUPPORT. A background at every cell with foreground writes over it, and the foreground cells of DRAW.FN1 and
DRAW.FN2 (spec 43_visualizer.md R170, R172 to R175). -/
namespace Sys2Proof.Machine

variable (s : State)

theorem solidWrites_eq (c : Colour) : solidWrites c = ascendingWrites fun _ => c :=
  planeIndices_map_eq_ascendingWrites fun _ => c

/-- The image of a background with one foreground colour over it: the cells written in the foreground hold it. -/
theorem readFb_issue_over_background {bg fg : Colour} {ws : List FbWrite} {P : Index → Prop} [DecidablePred P]
    (hcolour : ∀ w ∈ ws, w.2 = fg) (hcells : ∀ i, P i ↔ ∃ w ∈ ws, w.1 = i) (i : Index) :
    readFb (issue (solidWrites bg ++ ws) s) i = some (if P i then fg else bg) := by
  rw [readFb, issue_fb, applyWrites_append]
  by_cases hP : P i
  · rw [if_pos hP]
    exact lookup_applyWrites_of_mem _ _ _ _ (fun w hw _ => hcolour w hw) ((hcells i).1 hP)
  · rw [if_neg hP, lookup_applyWrites_of_not_mem _ _ _ fun w hw hi => hP ((hcells i).2 ⟨w, hw, hi⟩)]
    exact lookup_applyWrites_plane _ _ i

theorem s8_inj {a b : Byte} : s8 a = s8 b ↔ a = b := BitVec.toInt_inj

theorem toIndex_eq_iff (x y : Byte) (i : Index) : toIndex x y = i ↔ x = (toCoord i).1 ∧ y = (toCoord i).2 := by
  constructor
  · rintro rfl
    exact ⟨by rw [toCoord_toIndex], by rw [toCoord_toIndex]⟩
  · rintro ⟨rfl, rfl⟩
    exact toIndex_toCoord i

/-! DRAW.FN1. -/

theorem plotArguments_eq : plotArguments = (List.range 256).map fun (k : Nat) => u8 ((k : Int) - 128) := by
  unfold plotArguments
  rfl

/-- DRAW.FN1 plots every argument: `x` is the one numbered by its corner. -/
theorem mem_plotArguments (x : Byte) : x ∈ plotArguments := by
  rw [plotArguments_eq]
  exact List.mem_map.2 ⟨(corner x).toNat, List.mem_range.2 (corner x).isLt, by rw [← s8_eq_corner_sub, u8_s8]⟩

theorem plot1Writes_eq : plot1Writes s = (List.range 256).map fun (k : Nat) =>
    (toIndex (u8 ((k : Int) - 128)) (u8 (f1 s ((k : Int) - 128))), s.cfg.colourFg) := by
  simp only [plot1Writes, plotArguments_eq, List.map_map, Function.comp_def, f1, u8_s8]

theorem colour_of_mem_plot1Writes {w : FbWrite} (hw : w ∈ plot1Writes s) : w.2 = s.cfg.colourFg := by
  obtain ⟨x, -, rfl⟩ := List.mem_map.1 hw
  rfl

theorem exists_mem_plot1Writes_iff (i : Index) :
    (∃ w ∈ plot1Writes s, w.1 = i) ↔ ∃ x, i = toIndex x (readFt1 s x) := by
  constructor
  · rintro ⟨w, hw, rfl⟩
    obtain ⟨x, -, rfl⟩ := List.mem_map.1 hw
    exact ⟨x, rfl⟩
  · rintro ⟨x, rfl⟩
    exact ⟨_, List.mem_map_of_mem (mem_plotArguments x), rfl⟩

/-- The image of DRAW.FN1, with its foreground cells given in any form. -/
theorem readFb_plot1 {P : Index → Prop} [DecidablePred P] (hcells : ∀ i, P i ↔ ∃ x, i = toIndex x (readFt1 s x))
    (i : Index) : readFb (plot1 s) i = some (if P i then s.cfg.colourFg else s.cfg.colourBg) := by
  rw [plot1_eq]
  exact readFb_issue_over_background s (fun w hw => colour_of_mem_plot1Writes s hw)
    (fun j => (hcells j).trans (exists_mem_plot1Writes_iff s j).symm) i

/-- A cell is on the graph of f1 exactly if its y is f1 of its x. -/
theorem snd_eq_f1_fst_iff (i : Index) :
    s8 (toCoord i).2 = f1 s (s8 (toCoord i).1) ↔ ∃ x, i = toIndex x (readFt1 s x) := by
  rw [f1, u8_s8, s8_inj]
  constructor
  · intro h
    exact ⟨(toCoord i).1, by rw [← h, toIndex_toCoord]⟩
  · rintro ⟨x, rfl⟩
    rw [toCoord_toIndex]

/-! DRAW.FN2. -/

theorem plot2Writes_eq : plot2Writes s = (List.range 65536).map fun k =>
    (toIndex (u8 (rowfn s s.xoff (s8 (toCoord (BitVec.ofNat 16 k)).1)))
      (u8 (rowfn s s.yoff (s8 (toCoord (BitVec.ofNat 16 k)).2))), s.cfg.colourFg) := by
  simp only [plot2Writes, planeIndices_eq, List.map_map, Function.comp_def, rowfn, u8_s8]

theorem colour_of_mem_plot2Writes {w : FbWrite} (hw : w ∈ plot2Writes s) : w.2 = s.cfg.colourFg := by
  obtain ⟨j, -, rfl⟩ := List.mem_map.1 hw
  rfl

/-- Every pair of arguments is the coordinate of a source index, so the x and the y of a drawn cell vary apart. -/
theorem exists_mem_plot2Writes_iff (i : Index) : (∃ w ∈ plot2Writes s, w.1 = i) ↔
    (∃ x, readFt2 s s.xoff x = (toCoord i).1) ∧ ∃ y, readFt2 s s.yoff y = (toCoord i).2 := by
  constructor
  · rintro ⟨w, hw, hi⟩
    obtain ⟨j, -, rfl⟩ := List.mem_map.1 hw
    obtain ⟨hx, hy⟩ := (toIndex_eq_iff _ _ i).1 hi
    exact ⟨⟨_, hx⟩, _, hy⟩
  · rintro ⟨⟨x, hx⟩, y, hy⟩
    refine ⟨_, List.mem_map_of_mem (mem_planeIndices (toIndex x y)), ?_⟩
    rw [toIndex_eq_iff, toCoord_toIndex]
    exact ⟨hx, hy⟩

/-- The image of DRAW.FN2, with its foreground cells given in any form. -/
theorem readFb_plot2 {P : Index → Prop} [DecidablePred P]
    (hcells : ∀ i, P i ↔ (∃ x, readFt2 s s.xoff x = (toCoord i).1) ∧ ∃ y, readFt2 s s.yoff y = (toCoord i).2)
    (i : Index) : readFb (plot2 s) i = some (if P i then s.cfg.colourFg else s.cfg.colourBg) := by
  rw [plot2_eq]
  exact readFb_issue_over_background s (fun w hw => colour_of_mem_plot2Writes s hw)
    (fun j => (hcells j).trans (exists_mem_plot2Writes_iff s j).symm) i

end Sys2Proof.Machine
end

section
/-! SUPPORT. The cells of the graph of a function on bytes, and of the product of two images, as finite sets
(spec 43_visualizer.md R173, R175). -/
namespace Sys2Proof.Machine

variable (g h : Byte → Byte)

/-- The cells `to_index(x, g(x))` (R173). -/
def graphCells : Finset Index := Finset.univ.image fun x => toIndex x (g x)

theorem mem_graphCells (i : Index) : i ∈ graphCells g ↔ ∃ x, i = toIndex x (g x) := by
  simp only [graphCells, Finset.mem_image, Finset.mem_univ, true_and, eq_comm]

/-- The x of a cell tells the cells of a graph apart. -/
theorem card_graphCells : (graphCells g).card = 256 := by
  have hinj : Function.Injective fun x => toIndex x (g x) := fun _ _ hxy => (toIndex_inj hxy).1
  rw [graphCells, Finset.card_image_of_injective _ hinj, Finset.card_univ, ← FinEnum.card_eq_fintypeCard]
  exact FinEnum.card_bitVec 8

theorem lowByte_toIndex (x y : Byte) : (toIndex x y).extractLsb' 0 8 = corner x := lowByte_append _ _

/-- A column has exactly one cell of the graph, the one whose x has the column as its corner. -/
theorem graphCells_column (c : Byte) :
    ∃ i ∈ graphCells g, i.extractLsb' 0 8 = c ∧ ∀ j ∈ graphCells g, j.extractLsb' 0 8 = c → j = i := by
  refine ⟨toIndex (uncorner c) (g (uncorner c)), (mem_graphCells g _).2 ⟨_, rfl⟩, ?_, fun j hj hc => ?_⟩
  · rw [lowByte_toIndex, corner_uncorner]
  · obtain ⟨x, rfl⟩ := (mem_graphCells g j).1 hj
    rw [lowByte_toIndex] at hc
    rw [← hc, uncorner_corner]

/-- The cells whose x is in the image of `g` and whose y is in the image of `h` (R175). -/
def productCells : Finset Index :=
  (Finset.univ.image g ×ˢ Finset.univ.image h).image fun p => toIndex p.1 p.2

theorem mem_productCells (i : Index) :
    i ∈ productCells g h ↔ (∃ x, g x = (toCoord i).1) ∧ ∃ y, h y = (toCoord i).2 := by
  simp only [productCells, Finset.mem_image, Finset.mem_product, Finset.mem_univ, true_and, Prod.exists]
  constructor
  · rintro ⟨x, y, ⟨hx, hy⟩, rfl⟩
    rw [toCoord_toIndex]
    exact ⟨hx, hy⟩
  · intro hi
    exact ⟨_, _, hi, toIndex_toCoord i⟩

theorem ncard_range_eq_card_image : (Set.range g).ncard = (Finset.univ.image g).card := by
  rw [← Set.ncard_coe_finset, Finset.coe_image, Finset.coe_univ, Set.image_univ]

theorem card_productCells : (productCells g h).card = (Set.range g).ncard * (Set.range h).ncard := by
  have hinj : Function.Injective fun p : Byte × Byte => toIndex p.1 p.2 := fun _ _ hpq =>
    Prod.ext_iff.2 (toIndex_inj hpq)
  rw [productCells, Finset.card_image_of_injective _ hinj, Finset.card_product, ncard_range_eq_card_image,
    ncard_range_eq_card_image]

theorem one_le_card_productCells : 1 ≤ (productCells g h).card := by
  have himages := (Finset.univ_nonempty.image g).product (Finset.univ_nonempty.image h)
  exact Finset.one_le_card.2 (himages.image _)

theorem card_productCells_le : (productCells g h).card ≤ 65536 := by
  have hle := Finset.card_le_univ (productCells g h)
  rwa [← FinEnum.card_eq_fintypeCard, FinEnum.card_bitVec] at hle

end Sys2Proof.Machine
end

section
/-! SUPPORT. The words of the visualiser's commands and what each paints (spec 43_visualizer.md R171 to R177,
30_encoding.md R78, R81). -/
namespace Sys2Proof.Machine

theorem encodedAs_fill : EncodedAs 0xFFFFFFFC 0x30000000 fun cw => .fill (ColourSel.ofCode (selField cw)) :=
  encodedAs_of_mem (f := ⟨"FILL", 0x30, 2, fun cw => .fill (ColourSel.ofCode (selField cw))⟩) (by simp [formats])
    (by decide) (by decide)

theorem encodedAs_drawFn1 : EncodedAs 0xFFFFFFFF 0x33000000 fun _ => .drawFn1 :=
  encodedAs_of_mem (f := ⟨"DRAW.FN1", 0x33, 0, fun _ => .drawFn1⟩) (by simp [formats]) (by decide) (by decide)

theorem encodedAs_drawFn2 : EncodedAs 0xFFFFFFFF 0x34000000 fun _ => .drawFn2 :=
  encodedAs_of_mem (f := ⟨"DRAW.FN2", 0x34, 0, fun _ => .drawFn2⟩) (by simp [formats]) (by decide) (by decide)

/-- The four colours in the order of their codes (R78). -/
theorem colours_getElem_code (cfg : SessionConfig) (sel : ColourSel) :
    [cfg.colourBg, cfg.colourFg, cfg.colourReset, cfg.colourReseed][sel.code.toNat]? = some (selectColour cfg sel) := by
  cases sel <;> rfl

/-- Settles O38: FILL issues one paint by the colour whose place in the list is the selector's code. -/
theorem fillPaintsOneColour : Obligations.FillPaintsOneColour := by
  refine ⟨encodedAs_fill, fun sel => ⟨sel.code, (ofCode_code sel).symm⟩, fun v s c hc => ?_⟩
  have hsel : selectColour s.cfg (ColourSel.ofCode v) = c := by
    rw [← code_ofCode v, colours_getElem_code] at hc
    exact Option.some.inj hc
  refine ⟨_, exec_eq_effect _ s, rfl, ?_⟩
  rw [effect, paintSolid_eq, hsel, solidWrites_eq]
  exact ⟨readFb_issue_ascendingWrites s _, issue_fbWrites s _⟩

/-- Settles O39: the writes are the background and the plot, and the plotted cells are those on the graph of f1. -/
theorem drawFn1PlotsFunction : Obligations.DrawFn1PlotsFunction := by
  refine ⟨encodedAs_drawFn1, fun s => ⟨_, exec_eq_effect _ s, rfl, ?_, readFb_plot1 s (snd_eq_f1_fst_iff s)⟩⟩
  rw [effect, plot1_eq, issue_fbWrites, solidWrites_eq, plot1Writes_eq, List.append_assoc]

/-- Settles O40: the foreground cells are the graph of FT1, which has one cell in each of the 256 columns. -/
theorem drawFn1Paints256Cells : Obligations.DrawFn1Paints256Cells := by
  intro s t hexec
  obtain rfl := (exec_next_iff _ s t).1 hexec
  have hmem := mem_graphCells (readFt1 s)
  exact ⟨graphCells (readFt1 s), card_graphCells _, hmem, graphCells_column _, readFb_plot1 s hmem⟩

/-- Settles O41: as O39, with the plot of the translated plane; a cell is foreground if a source index reaches it. -/
theorem drawFn2PlotsRowFunctions : Obligations.DrawFn2PlotsRowFunctions := by
  refine ⟨encodedAs_drawFn2, fun s => ⟨_, exec_eq_effect _ s, rfl, ?_, fun i => ?_⟩⟩
  · rw [effect, plot2_eq, issue_fbWrites, solidWrites_eq, plot2Writes_eq, List.append_assoc]
  · rw [effect, readFb_plot2 s (mem_productCells _ _) i]
    split
    · exact .inl rfl
    · exact .inr rfl

/-- Settles O42: the foreground cells are the product of the two images, counted by the bijection of R103. -/
theorem drawFn2ImageIsProduct : Obligations.DrawFn2ImageIsProduct := by
  intro s t hexec
  obtain rfl := (exec_next_iff _ s t).1 hexec
  have hmem := mem_productCells (readFt2 s s.xoff) (readFt2 s s.yoff)
  exact ⟨_, hmem, readFb_plot2 s hmem, card_productCells _ _, one_le_card_productCells _ _,
    card_productCells_le _ _⟩

/-- Settles O43: FILL and the patterns give each cell a colour of its own, the draws one of two. -/
theorem paintingLeavesNoCellUnwritten : Obligations.PaintingLeavesNoCellUnwritten := by
  intro i s t k hexec hpaint
  obtain rfl := (exec_next_iff i s t).1 hexec
  obtain ⟨sel, rfl⟩ | rfl | rfl | rfl | rfl := hpaint
  · rw [effect, paintSolid_eq, solidWrites_eq]
    exact ⟨_, readFb_issue_ascendingWrites s _ k⟩
  · exact ⟨_, readFb_plot1 s (mem_graphCells _) k⟩
  · exact ⟨_, readFb_plot2 s (mem_productCells _ _) k⟩
  · rw [effect, paintStripe_eq, stripeWrites_eq]
    exact ⟨_, readFb_issue_ascendingWrites s _ k⟩
  · rw [effect, paintChecker_eq, checkerWrites_eq]
    exact ⟨_, readFb_issue_ascendingWrites s _ k⟩

end Sys2Proof.Machine
end

section
/-! SUPPORT. NOP and the commands of the control registers: their words, and that each steps one register and leaves
every other field (spec 44_mode_fsm.md R200 to R206, 30_encoding.md R81, R82). -/
namespace Sys2Proof.Machine

theorem encodedAs_nop : EncodedAs 0xFFFFFFFF 0x00000000 fun _ => .nop :=
  encodedAs_of_mem (f := ⟨"NOP", 0x00, 0, fun _ => .nop⟩) (by simp [formats]) (by decide) (by decide)

theorem encodedAs_modeAdv : EncodedAs 0xFFFFFFFF 0x40000000 fun _ => .modeAdv :=
  encodedAs_of_mem (f := ⟨"MODE.ADV", 0x40, 0, fun _ => .modeAdv⟩) (by simp [formats]) (by decide) (by decide)

theorem encodedAs_xoffInc : EncodedAs 0xFFFFFFFF 0x41000000 fun _ => .xoffInc :=
  encodedAs_of_mem (f := ⟨"XOFF.INC", 0x41, 0, fun _ => .xoffInc⟩) (by simp [formats]) (by decide) (by decide)

theorem encodedAs_xoffDec : EncodedAs 0xFFFFFFFF 0x42000000 fun _ => .xoffDec :=
  encodedAs_of_mem (f := ⟨"XOFF.DEC", 0x42, 0, fun _ => .xoffDec⟩) (by simp [formats]) (by decide) (by decide)

theorem encodedAs_yoffInc : EncodedAs 0xFFFFFFFF 0x43000000 fun _ => .yoffInc :=
  encodedAs_of_mem (f := ⟨"YOFF.INC", 0x43, 0, fun _ => .yoffInc⟩) (by simp [formats]) (by decide) (by decide)

theorem encodedAs_yoffDec : EncodedAs 0xFFFFFFFF 0x44000000 fun _ => .yoffDec :=
  encodedAs_of_mem (f := ⟨"YOFF.DEC", 0x44, 0, fun _ => .yoffDec⟩) (by simp [formats]) (by decide) (by decide)

theorem encodedAs_chkToggle : EncodedAs 0xFFFFFFFF 0x45000000 fun _ => .chkToggle :=
  encodedAs_of_mem (f := ⟨"CHK.TOGGLE", 0x45, 0, fun _ => .chkToggle⟩) (by simp [formats]) (by decide) (by decide)

theorem nextMode_nextMode_nextMode (m : Mode) : nextMode (nextMode (nextMode m)) = m := by
  cases m <;> rfl

theorem advanceMode_advanceMode_advanceMode (s : State) : advanceMode (advanceMode (advanceMode s)) = s :=
  congrArg (fun m => { s with mode := m }) (nextMode_nextMode_nextMode s.mode)

theorem toggleChk_toggleChk (s : State) : toggleChk (toggleChk s) = s :=
  congrArg (fun b => { s with chk := b }) (Bool.not_not s.chk)

theorem toNat_sub_one (b : Byte) : ((b - 1).toNat : Int) = ((b.toNat : Int) - 1) % 256 := by
  have hsub : (b - 1).toNat = (255 + b.toNat) % 256 := BitVec.toNat_sub b 1
  omega

/-- Settles O44: NOP's effect is the identity. -/
theorem nopChangesNothing : Obligations.NopChangesNothing :=
  ⟨encodedAs_nop, exec_eq_effect .nop⟩

/-- Settles O45: the effect is one advance of MODE, and the advance has period 3. -/
theorem modeAdvAdvances : Obligations.ModeAdvAdvances := by
  refine ⟨encodedAs_modeAdv, fun s => ⟨_, exec_eq_effect .modeAdv s, rfl, code_nextMode s.mode⟩, fun s => ?_⟩
  rw [runInstrs_cons, runInstrs_cons, runInstrs_cons, runInstrs]
  exact congrArg Host.Outcome.next (advanceMode_advanceMode_advanceMode s)

/-- Settles O46: the byte of XOFF steps up or down modulo 256. -/
theorem xoffStepsWrap : Obligations.XoffStepsWrap :=
  ⟨encodedAs_xoffInc, encodedAs_xoffDec, fun s => ⟨_, exec_eq_effect .xoffInc s, rfl, BitVec.toNat_add s.xoff 1⟩,
    fun s => ⟨_, exec_eq_effect .xoffDec s, rfl, toNat_sub_one s.xoff⟩⟩

/-- Settles O47: as O46, with the byte of YOFF. -/
theorem yoffStepsWrap : Obligations.YoffStepsWrap :=
  ⟨encodedAs_yoffInc, encodedAs_yoffDec, fun s => ⟨_, exec_eq_effect .yoffInc s, rfl, BitVec.toNat_add s.yoff 1⟩,
    fun s => ⟨_, exec_eq_effect .yoffDec s, rfl, toNat_sub_one s.yoff⟩⟩

/-- Settles O48: the effect is one toggle of CHK, and a toggle is its own inverse. -/
theorem chkToggleFlips : Obligations.ChkToggleFlips := by
  refine ⟨encodedAs_chkToggle, exec_eq_effect .chkToggle, fun s => ?_⟩
  rw [runInstrs_cons, runInstrs_cons, runInstrs]
  exact congrArg Host.Outcome.next (toggleChk_toggleChk s)

end Sys2Proof.Machine
end

section
/-! SUPPORT. The scroll and the toggles of a frame as sums: how far the offsets move under the default DIR_SIGN, and the
parity of the toggles of CHK (spec 44_mode_fsm.md R210, R211, 45_frame.md R230). -/
namespace Sys2Proof.Machine

variable {s : State} (held pressed : Byte)

/-! One conditional scroll step under the default DIR_SIGN. -/

theorem ite_scrollStep_right (h : s.cfg.dirSign = {}) (b : Bool) :
    (if b then scrollStep .right s else s) = { s with xoff := s.xoff + if b then 1 else 0 } := by
  cases b <;> simp [scrollStep, h, incXoff]

theorem ite_scrollStep_left (h : s.cfg.dirSign = {}) (b : Bool) :
    (if b then scrollStep .left s else s) = { s with xoff := s.xoff - if b then 1 else 0 } := by
  cases b <;> simp [scrollStep, h, decXoff]

theorem ite_scrollStep_up (h : s.cfg.dirSign = {}) (b : Bool) :
    (if b then scrollStep .up s else s) = { s with yoff := s.yoff + if b then 1 else 0 } := by
  cases b <;> simp [scrollStep, h, incYoff]

theorem ite_scrollStep_down (h : s.cfg.dirSign = {}) (b : Bool) :
    (if b then scrollStep .down s else s) = { s with yoff := s.yoff - if b then 1 else 0 } := by
  cases b <;> simp [scrollStep, h, decYoff]

/-- Each direction of the scroll set adds its own step, whatever the others do (R210). -/
theorem frameScroll_of_default (h : s.cfg.dirSign = {}) :
    frameScroll held pressed s =
      { s with
        xoff := s.xoff + scrollCount held pressed s .right - scrollCount held pressed s .left,
        yoff := s.yoff + scrollCount held pressed s .up - scrollCount held pressed s .down } := by
  unfold frameScroll scrollOrder
  simp only [List.foldl_cons, List.foldl_nil, ite_scrollStep_right, ite_scrollStep_left, ite_scrollStep_up,
    ite_scrollStep_down, h]
  rfl

theorem scrollCount_frameAdvance (d : Direction) :
    scrollCount held pressed (frameAdvance pressed s) d = scrollCount held pressed s d := by
  rw [scrollCount, scrollCount, frameAdvance_cfg]

/-- A list of conditional toggles flips CHK when an odd number of its directions are set. -/
theorem foldl_toggleChk_chk (ds : List Direction) (s : State) :
    (ds.foldl (fun t d => if isSet pressed (.dir d) then toggleChk t else t) s).chk =
      if (ds.filter fun d => isSet pressed (.dir d)).length % 2 = 1 then !s.chk else s.chk := by
  induction ds generalizing s with
  | nil => rfl
  | cons d ds ih =>
    rw [List.foldl_cons, ih, List.filter_cons]
    cases isSet pressed (.dir d) with
    | false => rfl
    | true =>
      obtain hpar | hpar := Nat.mod_two_eq_zero_or_one (ds.filter fun d => isSet pressed (.dir d)).length <;>
      simp [hpar, Nat.add_mod]

theorem frameToggle_chk : (frameToggle pressed s).chk = chkAfterEdges pressed s.chk :=
  foldl_toggleChk_chk pressed toggleOrder s

end Sys2Proof.Machine
end

section
/-! SUPPORT. A frame in a visualiser mode and in TestPattern: MODE, the offsets, CHK and the render (spec
44_mode_fsm.md R207, R210, R211, 45_frame.md R230, R234). -/
namespace Sys2Proof.Machine

variable (held pressed : Byte) {s : State}

theorem runFrame_visualiser (h : (frameAdvance pressed s).mode ≠ .testPattern) :
    runFrame held pressed s =
      emitRotate (frameBranch held pressed (frameScroll held pressed (frameAdvance pressed s))) := by
  rw [runFrame_eq, frameDispatch_visualiser held pressed _ h]

theorem runFrame_pattern (h : (frameAdvance pressed s).mode = .testPattern) :
    runFrame held pressed s = emitRotate (framePattern (frameToggle pressed (frameAdvance pressed s))) := by
  rw [runFrame_eq, frameDispatch_pattern held pressed _ h]

/-- The branch of a visualiser frame leaves the offsets as the scroll left them, and no part of it touches CHK. -/
theorem runFrame_offsets_of_visualiser (h : (frameAdvance pressed s).mode ≠ .testPattern) :
    (runFrame held pressed s).xoff = (frameScroll held pressed (frameAdvance pressed s)).xoff ∧
    (runFrame held pressed s).yoff = (frameScroll held pressed (frameAdvance pressed s)).yoff ∧
    (runFrame held pressed s).chk = s.chk := by
  have hpaint := paints_frameBranch held pressed _ ((frameScroll_mode held pressed (frameAdvance pressed s)).symm ▸ h)
  rw [runFrame_visualiser held pressed h]
  exact ⟨hpaint.xoff, hpaint.yoff, by rw [emitRotate_chk, hpaint.chk, frameScroll_chk, frameAdvance_chk]⟩

/-- A frame in TestPattern leaves the offsets as they are, and CHK as its toggles left it. -/
theorem runFrame_offsets_of_pattern (h : (frameAdvance pressed s).mode = .testPattern) :
    (runFrame held pressed s).xoff = s.xoff ∧ (runFrame held pressed s).yoff = s.yoff ∧
    (runFrame held pressed s).chk = chkAfterEdges pressed s.chk := by
  have hpaint := paints_framePattern (frameToggle pressed (frameAdvance pressed s))
  rw [runFrame_pattern held pressed h]
  refine ⟨hpaint.xoff.trans ?_, hpaint.yoff.trans ?_, hpaint.chk.trans ?_⟩
  · rw [frameToggle_xoff, frameAdvance_xoff]
  · rw [frameToggle_yoff, frameAdvance_yoff]
  · rw [frameToggle_chk, frameAdvance_chk]

/-- Settles O50: the branch that the advanced mode selects either scrolls, each direction on its own, or leaves the
offsets as they are. -/
theorem frameAdvancesAndScrolls : Obligations.FrameAdvancesAndScrolls := by
  intro held pressed s t hexec
  obtain rfl := (exec_next_iff _ s t).1 hexec
  have hmode : (runFrame held pressed s).mode = (frameAdvance pressed s).mode := runFrame_mode held pressed s
  refine ⟨hmode.trans (frameAdvance_mode pressed s), fun hm hsign => ?visualiser, fun hm => ?pattern⟩
  case visualiser =>
    obtain ⟨hx, hy, hchk⟩ := runFrame_offsets_of_visualiser held pressed (hmode ▸ hm)
    have hsign' : (frameAdvance pressed s).cfg.dirSign = {} := by rw [frameAdvance_cfg, hsign]
    rw [frameScroll_of_default held pressed hsign'] at hx hy
    simp only [scrollCount_frameAdvance, frameAdvance_xoff, frameAdvance_yoff] at hx hy
    exact ⟨hx, hy, hchk⟩
  case pattern =>
    obtain ⟨hx, hy, -⟩ := runFrame_offsets_of_pattern held pressed (hmode.symm.trans hm)
    exact ⟨hx, hy⟩

/-! The render of TestPattern. -/

/-- The palette entry of a cell: the stripe's, with the row number added when CHK is set (R234). -/
theorem readFb_framePattern (s : State) (k : Index) :
    readFb (framePattern s) k =
      some (paletteAt s.cfg (k.toNat + patternOffset s + if s.chk then k.toNat / 256 else 0)) := by
  cases h : s.chk with
  | true =>
    rw [framePattern_checker s h, checkerWrites_eq]
    exact readFb_issue_ascendingWrites s _ k
  | false =>
    rw [framePattern_stripe s h, stripeWrites_eq]
    exact readFb_issue_ascendingWrites s _ k

theorem patternOffset_frameToggle (s : State) : patternOffset (frameToggle pressed s) = patternOffset s := by
  rw [frameToggle_eq]
  rfl

theorem patternOffset_frameAdvance (s : State) : patternOffset (frameAdvance pressed s) = patternOffset s := by
  rw [frameAdvance_eq]
  rfl

/-- Of the operands a frame in TestPattern reads the edges of BTN_ADVANCE and of the directions only (R211). -/
theorem runFrame_pattern_congr {held' pressed' : Byte} (h : (frameAdvance pressed s).mode = .testPattern)
    (hdir : ∀ d, isSet pressed' (.dir d) = isSet pressed (.dir d))
    (hadv : isSet pressed' (.face s.cfg.btnAdvance) = isSet pressed (.face s.cfg.btnAdvance)) :
    runFrame held' pressed' s = runFrame held pressed s := by
  have hadvance : frameAdvance pressed' s = frameAdvance pressed s := by rw [frameAdvance, frameAdvance, hadv]
  have htoggle (t : State) : frameToggle pressed' t = frameToggle pressed t := by simp only [frameToggle, hdir]
  rw [runFrame_pattern held pressed h, runFrame_pattern held' pressed' (hadvance ▸ h), hadvance, htoggle]

/-- Settles O51: a frame in TestPattern is the render of the toggled state. -/
theorem frameTogglesAndPaintsPattern : Obligations.FrameTogglesAndPaintsPattern := by
  intro held pressed s hframe
  have hm : (frameAdvance pressed s).mode = .testPattern := (frameAdvance_mode pressed s).trans hframe
  obtain ⟨hx, hy, hchk⟩ := runFrame_offsets_of_pattern held pressed hm
  refine ⟨_, exec_eq_effect _ s, hchk, hx, hy, fun held' pressed' hdir hadv => ?operands, fun k => ?render⟩
  case operands =>
    rw [exec_eq_effect]
    exact congrArg Host.Outcome.next (runFrame_pattern_congr held pressed hm hdir hadv)
  case render =>
    have hread := readFb_framePattern (frameToggle pressed (frameAdvance pressed s)) k
    rw [patternOffset_frameToggle, patternOffset_frameAdvance, frameToggle_cfg, frameAdvance_cfg, frameToggle_chk,
      frameAdvance_chk, ← hchk] at hread
    rw [effect, ← hread, runFrame_pattern held pressed hm]
    rfl

end Sys2Proof.Machine
end

section
/-! SUPPORT. The fields a frame leaves alone, and which command emits the strobe (spec 45_frame.md R230, R235). -/
namespace Sys2Proof.Machine

theorem effect_strobe_of_ne {i : Instr} (hframe : ∀ held pressed, i ≠ .frame held pressed) (s : State) :
    (effect i s).strobe = s.strobe := by
  cases i with
  | frame held pressed => exact absurd rfl (hframe held pressed)
  | _ => rfl

/-- Settles O16: a frame ends with its strobe, and every other command keeps the strobe it finds. -/
theorem onlyFrameEmitsStrobe : Obligations.OnlyFrameEmitsStrobe := by
  intro i s t hstrobe hexec
  obtain rfl := (exec_next_iff i s t).1 hexec
  constructor
  · intro hemits
    by_contra hnot
    have hkept := effect_strobe_of_ne (fun held pressed hi => hnot ⟨held, pressed, hi⟩) s
    exact Bool.false_ne_true (hstrobe.symm.trans (hkept.symm.trans hemits))
  · rintro ⟨held, pressed, rfl⟩
    exact emitRotate_strobe _

/-- A command that keeps RES leaves the state before it, but for the fields that `KeepsRest` does not name. -/
theorem KeepsRest.eq_of_res {s t : State} (h : KeepsRest s t) (hres : t.res = s.res) :
    t = { s with mode := t.mode, xoff := t.xoff, yoff := t.yoff, chk := t.chk, rng := t.rng, ft1 := t.ft1,
                 ft2 := t.ft2, fb := t.fb, fbWrites := t.fbWrites, strobe := t.strobe } := by
  rw [← h.errIllegal, ← h.errConfig, ← h.busy, ← h.cfg, ← h.latchNow, ← h.latchPrev, ← h.inputs, ← h.hostData,
    ← h.choices, ← hres]

/-- Settles O54: no command changes the error bits, BUSY, the configuration, the latch or the host's side, and a frame
does not write RES. -/
theorem frameLeavesRestUnchanged : Obligations.FrameLeavesRestUnchanged := by
  intro held pressed s t hexec
  obtain rfl := (exec_next_iff _ s t).1 hexec
  exact (keepsRest_runFrame held pressed s).eq_of_res (runFrame_res held pressed s)

end Sys2Proof.Machine
end

section
/-! SUPPORT. A frame as a list of commands: the plan of the mode it renders with, and the commands that the parts of the
frame perform (spec 45_frame.md R230, R232, 44_mode_fsm.md R207 to R211). -/
namespace Sys2Proof.Machine

/-- The mode whose table has two arguments, or one (R20). -/
def visualiserMode : Bool → Mode
  | true => .viewTwoArgFunction
  | false => .visualizeOneArgFunction

theorem visualiserMode_ne_testPattern (two : Bool) : visualiserMode two ≠ .testPattern := by
  cases two <;> exact Mode.noConfusion

theorem mode_cases (m : Mode) : m = .testPattern ∨ ∃ two, m = visualiserMode two := by
  cases m with
  | viewTwoArgFunction => exact .inr ⟨true, rfl⟩
  | visualizeOneArgFunction => exact .inr ⟨false, rfl⟩
  | testPattern => exact .inl rfl

theorem ne_testPattern_of_eq {m : Mode} {two : Bool} (h : m = visualiserMode two) : m ≠ .testPattern :=
  h ▸ visualiserMode_ne_testPattern two

variable (held pressed : Byte) {s : State} {two : Bool}

/-! The plan, by the mode the frame renders with. -/

/-- The commands of the mode advance (R207). -/
def advancePlan (pressed : Byte) (s : State) : List Instr :=
  if isSet pressed (.face s.cfg.btnAdvance) then [.modeAdv] else []

/-- The commands of the branch that runs (R232). -/
def branchPlan (held pressed : Byte) (cfg : SessionConfig) (two : Bool) : List Instr :=
  if triggered held pressed cfg.btnReset cfg.trigReset then [.fill .reset]
  else if triggered held pressed cfg.btnReseed cfg.trigReseed then [if two then .rand2 else .rand1, .fill .reseed]
  else [if two then .drawFn2 else .drawFn1]

/-- The command of one scroll step, by the sign of its direction (R210, R11). -/
def scrollCommand (sign : DirSign) : Direction → Instr
  | .right => xoffCommand sign.right
  | .left => xoffCommand sign.left
  | .up => yoffCommand sign.up
  | .down => yoffCommand sign.down

/-- The commands of the scroll (R210). -/
def scrollPlan (v : Byte) (sign : DirSign) (ds : List Direction) : List Instr :=
  chosen (ds.map fun d => (isSet v (.dir d), scrollCommand sign d))

theorem visualiserPlan_eq (s : State) (two : Bool) : visualiserPlan held pressed s.cfg two =
    scrollPlan (scrollSet held pressed s) s.cfg.dirSign scrollOrder ++ branchPlan held pressed s.cfg two := rfl

theorem framePlan_of_visualiser (h : frameMode pressed s = visualiserMode two) :
    framePlan held pressed s = advancePlan pressed s ++
      (scrollPlan (scrollSet held pressed s) s.cfg.dirSign scrollOrder ++ branchPlan held pressed s.cfg two) := by
  have hm : (if isSet pressed (.face s.cfg.btnAdvance) then nextMode s.mode else s.mode) = visualiserMode two := h
  rw [← visualiserPlan_eq]
  cases two <;> simp only [framePlan, hm, visualiserMode, advancePlan]

theorem framePlan_of_pattern (h : frameMode pressed s = .testPattern) :
    framePlan held pressed s = advancePlan pressed s ++ (List.replicate (edgeCount pressed) .chkToggle ++
      [if chkAfterEdges pressed s.chk then .patChecker else .patStripe]) := by
  have hm : (if isSet pressed (.face s.cfg.btnAdvance) then nextMode s.mode else s.mode) = .testPattern := h
  simp only [framePlan, hm, advancePlan]

/-! What the parts of a frame perform. -/

theorem runInstrs_singleton (i : Instr) (s : State) : runInstrs [i] s = .next (effect i s) := by
  rw [runInstrs_cons, runInstrs]

theorem frameAdvance_mode_eq (s : State) : (frameAdvance pressed s).mode = frameMode pressed s :=
  frameAdvance_mode pressed s

theorem runInstrs_advancePlan (s : State) : runInstrs (advancePlan pressed s) s = .next (frameAdvance pressed s) := by
  unfold advancePlan frameAdvance
  split
  · exact runInstrs_singleton .modeAdv s
  · rfl

theorem scrollStep_eq_effect (d : Direction) (s : State) :
    scrollStep d s = effect (scrollCommand s.cfg.dirSign d) s := by
  cases d <;> simp only [scrollStep, scrollCommand] <;> split <;> next h => rw [h]; rfl

theorem chosen_cons (b : Bool) (i : Instr) (steps : List (Bool × Instr)) :
    chosen ((b, i) :: steps) = if b then i :: chosen steps else chosen steps := by
  cases b <;> rfl

/-- A list of conditional scroll steps, each performed with the signs the list began with: no step changes them. -/
theorem runInstrs_scrollPlan (v : Byte) (ds : List Direction) (s : State) :
    runInstrs (scrollPlan v s.cfg.dirSign ds) s =
      .next (ds.foldl (fun t d => if isSet v (.dir d) then scrollStep d t else t) s) := by
  induction ds generalizing s with
  | nil => rfl
  | cons d ds ih =>
    rw [scrollPlan, List.map_cons, chosen_cons, List.foldl_cons]
    cases isSet v (.dir d) with
    | false => exact ih s
    | true =>
      have hcfg : (effect (scrollCommand s.cfg.dirSign d) s).cfg = s.cfg := (keepsRest_effect _ s).cfg
      rw [if_pos rfl, if_pos rfl, runInstrs_cons, scrollStep_eq_effect, ← ih, hcfg, scrollPlan]

/-- A list of conditional toggles performs as many as it has directions in the set (R211). -/
theorem runInstrs_toggles (ds : List Direction) (s : State) :
    runInstrs (List.replicate (ds.filter fun d => isSet pressed (.dir d)).length .chkToggle) s =
      .next (ds.foldl (fun t d => if isSet pressed (.dir d) then toggleChk t else t) s) := by
  induction ds generalizing s with
  | nil => rfl
  | cons d ds ih =>
    rw [List.filter_cons, List.foldl_cons]
    cases isSet pressed (.dir d) with
    | false => exact ih s
    | true => exact (runInstrs_cons _ _ s).trans (ih (toggleChk s))

theorem reseedActive_eq_effect (hm : s.mode = visualiserMode two) :
    reseedActive s = effect (if two then .rand2 else .rand1) s := by
  cases two with
  | true => exact reseedActive_view s hm
  | false => exact reseedActive_visualize s hm

theorem drawActive_eq_effect (hm : s.mode = visualiserMode two) :
    drawActive s = effect (if two then .drawFn2 else .drawFn1) s := by
  cases two with
  | true => exact drawActive_view s hm
  | false => exact drawActive_visualize s hm

theorem runInstrs_branchPlan (hm : s.mode = visualiserMode two) :
    runInstrs (branchPlan held pressed s.cfg two) s = .next (frameBranch held pressed s) := by
  unfold branchPlan frameBranch
  split
  · exact runInstrs_singleton _ s
  · split
    · rw [runInstrs_cons, ← reseedActive_eq_effect hm]
      exact runInstrs_singleton _ _
    · rw [drawActive_eq_effect hm]
      exact runInstrs_singleton _ s

theorem framePattern_eq_effect (s : State) :
    framePattern s = effect (if s.chk then .patChecker else .patStripe) s := by
  unfold framePattern
  split <;> rfl

theorem scrollSet_frameAdvance (s : State) :
    scrollSet held pressed (frameAdvance pressed s) = scrollSet held pressed s := by
  rw [scrollSet, scrollSet, frameAdvance_cfg]

theorem runInstrs_patternPlan (s : State) :
    runInstrs (List.replicate (edgeCount pressed) .chkToggle ++
      [if chkAfterEdges pressed s.chk then .patChecker else .patStripe]) s =
      .next (framePattern (frameToggle pressed s)) := by
  have htoggles : runInstrs (List.replicate (edgeCount pressed) .chkToggle) s = .next (frameToggle pressed s) :=
    runInstrs_toggles pressed toggleOrder s
  rw [runInstrs_append htoggles, runInstrs_singleton, framePattern_eq_effect, frameToggle_chk]

theorem runInstrs_visualiserPlan (hm : s.mode = visualiserMode two) :
    runInstrs (scrollPlan (scrollSet held pressed s) s.cfg.dirSign scrollOrder ++ branchPlan held pressed s.cfg two) s =
      .next (frameBranch held pressed (frameScroll held pressed s)) := by
  have hscroll : runInstrs (scrollPlan (scrollSet held pressed s) s.cfg.dirSign scrollOrder) s =
      .next (frameScroll held pressed s) := runInstrs_scrollPlan (scrollSet held pressed s) scrollOrder s
  rw [runInstrs_append hscroll, ← runInstrs_branchPlan held pressed ((frameScroll_mode held pressed s).trans hm),
    frameScroll_cfg]

/-- The plan performs the advance and, on the state it leaves, the dispatch. -/
theorem runInstrs_framePlan (s : State) :
    runInstrs (framePlan held pressed s) s = .next (frameDispatch held pressed (frameAdvance pressed s)) := by
  have hadvance := runInstrs_advancePlan pressed s
  have hmode := frameAdvance_mode_eq pressed s
  obtain hm | ⟨two, hm⟩ := mode_cases (frameMode pressed s)
  · have hpattern := runInstrs_patternPlan pressed (frameAdvance pressed s)
    rw [frameAdvance_chk] at hpattern
    rw [framePlan_of_pattern held pressed hm, runInstrs_append hadvance, hpattern,
      frameDispatch_pattern held pressed _ (hmode.trans hm)]
  · have hvisualiser := runInstrs_visualiserPlan held pressed (hmode.trans hm)
    rw [scrollSet_frameAdvance, frameAdvance_cfg] at hvisualiser
    rw [framePlan_of_visualiser held pressed hm, runInstrs_append hadvance, hvisualiser,
      frameDispatch_visualiser held pressed _ (hmode ▸ ne_testPattern_of_eq hm)]

/-! The rule's example: the edge of BTN_ADVANCE alone. -/

theorem isSet_face3_alone {b : Button} (h : b ≠ .face .face3) : isSet 0x80 b = false := by
  cases b with
  | dir d => cases d <;> rfl
  | face f =>
    cases f with
    | face3 => exact absurd rfl h
    | _ => rfl

theorem triggered_face3_alone {f : Face} (hf : f ≠ .face3) (k : Trigger) : triggered 0x80 0x80 f k = false := by
  have hset : isSet 0x80 (.face f) = false := isSet_face3_alone fun h => hf (Button.face.inj h)
  cases k <;> exact hset

theorem scrollPlan_eq_nil {v : Byte} (h : ∀ d, isSet v (.dir d) = false) (sign : DirSign) (ds : List Direction) :
    scrollPlan v sign ds = [] := by
  simp [scrollPlan, chosen, h]

theorem framePlan_face3_alone (hm : s.mode = .viewTwoArgFunction) (hreset : s.cfg.btnReset ≠ .face3)
    (hreseed : s.cfg.btnReseed ≠ .face3) (hadv : s.cfg.btnAdvance = .face3) :
    framePlan 0x80 0x80 s = [.modeAdv, .drawFn1] := by
  have hpressed : isSet 0x80 (.face s.cfg.btnAdvance) = true := by rw [hadv]; rfl
  have hmode : frameMode 0x80 s = visualiserMode false := by rw [frameMode, if_pos hpressed, hm]; rfl
  have hset : scrollSet 0x80 0x80 s = 0x80 := ite_self _
  have hscroll (d : Direction) : isSet 0x80 (.dir d) = false := isSet_face3_alone Button.noConfusion
  rw [framePlan_of_visualiser 0x80 0x80 hmode, hset, scrollPlan_eq_nil hscroll, advancePlan, if_pos hpressed,
    branchPlan, triggered_face3_alone hreset, triggered_face3_alone hreseed]
  rfl

theorem encodedAs_frame : EncodedAs 0xFFFF0000 0x01000000 fun cw => .frame (byte1 cw) (byte0 cw) :=
  encodedAs_of_mem (f := ⟨"FRAME", 0x01, 16, fun cw => .frame (byte1 cw) (byte0 cw)⟩) (by simp [formats])
    (by decide) (by decide)

/-- Settles O49: advance, scroll, branch, toggles and pattern each perform their part of the plan, and the strobe
follows. -/
theorem framePerformsItsPlan : Obligations.FramePerformsItsPlan := by
  refine ⟨encodedAs_frame, fun held pressed s => ?plan, by decide, fun s hm hreset hreseed _ hadv => ?advanceOnly⟩
  case plan =>
    exact ⟨_, runInstrs_framePlan held pressed s, runFrame_res held pressed s, exec_eq_effect _ s⟩
  case advanceOnly =>
    exact framePlan_face3_alone hm (by rw [hreset]; decide) (by rw [hreseed]; decide) hadv

end Sys2Proof.Machine
end

section
/-! SUPPORT. The one branch that a visualiser frame runs: its image, its tables and the draw of the scrolled state (spec
45_frame.md R232, R233). -/
namespace Sys2Proof.Machine

variable (held pressed : Byte) {s : State}

/-- The state a visualiser frame branches in: the advanced mode and the scrolled offsets (R230). -/
def scrolled (held pressed : Byte) (s : State) : State := frameScroll held pressed (frameAdvance pressed s)

theorem scrolled_eq (s : State) :
    scrolled held pressed s = { s with mode := frameMode pressed s, xoff := (scrolled held pressed s).xoff,
                                       yoff := (scrolled held pressed s).yoff } := by
  rw [scrolled, frameScroll_eq, ← frameAdvance_mode_eq, frameAdvance_eq]

@[simp] theorem scrolled_mode (s : State) : (scrolled held pressed s).mode = frameMode pressed s := by rw [scrolled_eq]
@[simp] theorem scrolled_cfg (s : State) : (scrolled held pressed s).cfg = s.cfg := by rw [scrolled_eq]
@[simp] theorem scrolled_rng (s : State) : (scrolled held pressed s).rng = s.rng := by rw [scrolled_eq]
@[simp] theorem scrolled_ft1 (s : State) : (scrolled held pressed s).ft1 = s.ft1 := by rw [scrolled_eq]
@[simp] theorem scrolled_ft2 (s : State) : (scrolled held pressed s).ft2 = s.ft2 := by rw [scrolled_eq]
@[simp] theorem scrolled_fb (s : State) : (scrolled held pressed s).fb = s.fb := by rw [scrolled_eq]
@[simp] theorem scrolled_fbWrites (s : State) : (scrolled held pressed s).fbWrites = s.fbWrites := by rw [scrolled_eq]

theorem runFrame_eq_branch (hm : frameMode pressed s ≠ .testPattern) :
    runFrame held pressed s = emitRotate (frameBranch held pressed (scrolled held pressed s)) :=
  runFrame_visualiser held pressed (frameAdvance_mode_eq pressed s ▸ hm)

variable {held pressed}

theorem runFrame_of_reset (hm : frameMode pressed s ≠ .testPattern)
    (hreset : triggered held pressed s.cfg.btnReset s.cfg.trigReset = true) :
    runFrame held pressed s = emitRotate (issue (solidWrites s.cfg.colourReset) (scrolled held pressed s)) := by
  have hcfg := scrolled_cfg held pressed s
  rw [runFrame_eq_branch held pressed hm, frameBranch_reset held pressed _ (hcfg.symm ▸ hreset), hcfg]

theorem runFrame_of_reseed (hm : frameMode pressed s ≠ .testPattern)
    (hreset : triggered held pressed s.cfg.btnReset s.cfg.trigReset = false)
    (hreseed : triggered held pressed s.cfg.btnReseed s.cfg.trigReseed = true) :
    runFrame held pressed s =
      emitRotate (issue (solidWrites s.cfg.colourReseed) (reseedActive (scrolled held pressed s))) := by
  have hcfg := scrolled_cfg held pressed s
  rw [runFrame_eq_branch held pressed hm, frameBranch_reseed held pressed _ (hcfg.symm ▸ hreset) (hcfg.symm ▸ hreseed),
    (keepsRest_reseedActive _).cfg, hcfg]

theorem runFrame_of_draw (hm : frameMode pressed s ≠ .testPattern)
    (hreset : triggered held pressed s.cfg.btnReset s.cfg.trigReset = false)
    (hreseed : triggered held pressed s.cfg.btnReseed s.cfg.trigReseed = false) :
    runFrame held pressed s = emitRotate (drawActive (scrolled held pressed s)) := by
  have hcfg := scrolled_cfg held pressed s
  rw [runFrame_eq_branch held pressed hm, frameBranch_draw held pressed _ (hcfg.symm ▸ hreset) (hcfg.symm ▸ hreseed)]

theorem readFb_issue_solidWrites (c : Colour) (s : State) (k : Index) :
    readFb (issue (solidWrites c) s) k = some c := by
  rw [solidWrites_eq]
  exact readFb_issue_ascendingWrites s _ k

/-! What a draw reads of the state. -/

variable {t u : State}

theorem plot1_fb_congr (hft1 : t.ft1 = u.ft1) (hcfg : t.cfg = u.cfg) (hfb : t.fb = u.fb) :
    (plot1 t).fb = (plot1 u).fb := by
  simp only [plot1_eq, issue_fb, plot1Writes, readFt1, hft1, hcfg, hfb]

theorem plot2_fb_congr (hft2 : t.ft2 = u.ft2) (hx : t.xoff = u.xoff) (hy : t.yoff = u.yoff) (hcfg : t.cfg = u.cfg)
    (hfb : t.fb = u.fb) : (plot2 t).fb = (plot2 u).fb := by
  simp only [plot2_eq, issue_fb, plot2Writes, readFt2, hft2, hx, hy, hcfg, hfb]

/-- The draw of the scrolled state paints what the drawing command does with the offsets the scroll left. -/
theorem drawActive_scrolled_fb (hm : frameMode pressed s ≠ .testPattern) :
    (drawActive (scrolled held pressed s)).fb =
      (effect (if frameMode pressed s = .viewTwoArgFunction then .drawFn2 else .drawFn1)
        { s with xoff := (scrolled held pressed s).xoff, yoff := (scrolled held pressed s).yoff }).fb := by
  have hmode := scrolled_mode held pressed s
  have hcfg := scrolled_cfg held pressed s
  have hfb := scrolled_fb held pressed s
  cases h : frameMode pressed s with
  | viewTwoArgFunction =>
    rw [drawActive_view _ (hmode.trans h), if_pos rfl]
    exact plot2_fb_congr (scrolled_ft2 held pressed s) rfl rfl hcfg hfb
  | visualizeOneArgFunction =>
    rw [drawActive_visualize _ (hmode.trans h), if_neg Mode.noConfusion]
    exact plot1_fb_congr (scrolled_ft1 held pressed s) hcfg hfb
  | testPattern => exact absurd h hm

/-- Settles O52: the branch that runs is a fill, a refill with a fill over it, or a draw. -/
theorem frameRunsOneBranch : Obligations.FrameRunsOneBranch := by
  intro held pressed s t hexec hm
  obtain rfl := (exec_next_iff _ s t).1 hexec
  rw [effect]
  have hmode := scrolled_mode held pressed s
  refine ⟨fun hreset => ?reset, fun hreset hreseed => ?reseed, fun hreset hreseed => ?draw⟩
  case reset =>
    rw [runFrame_of_reset hm hreset]
    exact ⟨readFb_issue_solidWrites _ _, scrolled_ft1 held pressed s, scrolled_ft2 held pressed s,
      scrolled_rng held pressed s⟩
  case reseed =>
    rw [runFrame_of_reseed hm hreset hreseed]
    refine ⟨readFb_issue_solidWrites _ _, fun hview => ?_, fun hvisualize => ?_⟩
    · rw [reseedActive_view _ (hmode.trans hview), ← scrolled_rng held pressed s]
      refine ⟨fun r c => ?_, refillFt2_rng_whole _, scrolled_ft1 held pressed s⟩
      rw [Nat.mul_comm 256]
      exact readFt2_refillFt2 _ r c
    · rw [reseedActive_visualize _ (hmode.trans hvisualize), ← scrolled_rng held pressed s]
      exact ⟨readFt1_refillFt1 _, refillFt1_rng _, scrolled_ft2 held pressed s⟩
  case draw =>
    obtain ⟨hx, hy, -⟩ := runFrame_offsets_of_visualiser held pressed (frameAdvance_mode_eq pressed s ▸ hm)
    obtain ⟨hft1, hft2, hrng, -⟩ := sameTables_drawActive (scrolled held pressed s)
    refine ⟨?_, ?_, ?_, _, exec_eq_effect _ _, ?_⟩
    · rw [runFrame_of_draw hm hreset hreseed, emitRotate_ft1, hft1, scrolled_ft1]
    · rw [runFrame_of_draw hm hreset hreseed, emitRotate_ft2, hft2, scrolled_ft2]
    · rw [runFrame_of_draw hm hreset hreseed, emitRotate_rng, hrng, scrolled_rng]
    · rw [hx, hy, runFrame_of_draw hm hreset hreseed, emitRotate_fb]
      exact drawActive_scrolled_fb hm

end Sys2Proof.Machine
end

section
/-! SUPPORT. Every frame writes the whole plane, and how many writes it issues (spec 45_frame.md R237). -/
namespace Sys2Proof.Machine

variable {s t : State} {held pressed : Byte}

theorem lookup_applyWrites_ne_none (m : Framebuffer) {ws : List FbWrite} {i : Index} (h : ∃ w ∈ ws, w.1 = i) :
    lookup (applyWrites m ws) i.toNat ≠ none := by
  induction ws using List.reverseRecOn with
  | nil => obtain ⟨w, hw, -⟩ := h; cases hw
  | append_singleton ws w ih =>
    rw [lookup_applyWrites_concat]
    split
    next => exact Option.some_ne_none _
    next hne =>
      obtain ⟨w', hw', hi⟩ := h
      obtain hmem | hlast := List.mem_append.1 hw'
      · exact ih ⟨w', hmem, hi⟩
      · exact absurd (List.mem_singleton.1 hlast ▸ hi).symm hne

/-- `t` is left by a command that issued `n` writes, at least one to each cell, and holds them applied to the
framebuffer of `s`. -/
def WritesPlane (n : Nat) (s t : State) : Prop :=
  ∃ ws, t.fbWrites = s.fbWrites ++ ws ∧ t.fb = applyWrites s.fb ws ∧ (∀ k : Index, ∃ w ∈ ws, w.1 = k) ∧ ws.length = n

/-- A paint of the plane with more writes over it writes the plane. -/
theorem writesPlane_issue_over (colour : Index → Colour) (fg : List FbWrite) (hwrites : t.fbWrites = s.fbWrites)
    (hfb : t.fb = s.fb) :
    WritesPlane (65536 + fg.length) s (issue ((planeIndices.map fun i => (i, colour i)) ++ fg) t) := by
  refine ⟨_, by rw [issue_fbWrites, hwrites], by rw [issue_fb, hfb], fun k => ⟨(k, colour k), ?_, rfl⟩, ?_⟩
  · exact List.mem_append_left _ (List.mem_map.2 ⟨k, mem_planeIndices k, rfl⟩)
  · rw [List.length_append, List.length_map, length_planeIndices, cellCount]

theorem writesPlane_issue (colour : Index → Colour) (hwrites : t.fbWrites = s.fbWrites) (hfb : t.fb = s.fb) :
    WritesPlane 65536 s (issue (planeIndices.map fun i => (i, colour i)) t) := by
  have hover := writesPlane_issue_over colour [] hwrites hfb
  rwa [List.append_nil] at hover

theorem length_plot1Writes (s : State) : (plot1Writes s).length = 256 := by
  rw [plot1Writes_eq, List.length_map, List.length_range]

theorem length_plot2Writes (s : State) : (plot2Writes s).length = 65536 := by
  rw [plot2Writes, List.length_map, length_planeIndices, cellCount]

theorem writesPlane_plot1 (hwrites : t.fbWrites = s.fbWrites) (hfb : t.fb = s.fb) :
    WritesPlane 65792 s (plot1 t) := by
  have hover := writesPlane_issue_over (fun _ => t.cfg.colourBg) (plot1Writes t) hwrites hfb
  rwa [length_plot1Writes] at hover

theorem writesPlane_plot2 (hwrites : t.fbWrites = s.fbWrites) (hfb : t.fb = s.fb) :
    WritesPlane 131072 s (plot2 t) := by
  have hover := writesPlane_issue_over (fun _ => t.cfg.colourBg) (plot2Writes t) hwrites hfb
  rwa [length_plot2Writes] at hover

theorem writesPlane_framePattern (hwrites : t.fbWrites = s.fbWrites) (hfb : t.fb = s.fb) :
    WritesPlane 65536 s (framePattern t) := by
  cases h : t.chk with
  | true => rw [framePattern_checker t h]; exact writesPlane_issue _ hwrites hfb
  | false => rw [framePattern_stripe t h]; exact writesPlane_issue _ hwrites hfb

theorem reseedActive_fbWrites (s : State) : (reseedActive s).fbWrites = s.fbWrites := by
  unfold reseedActive
  split <;> rfl

theorem reseedActive_fb (s : State) : (reseedActive s).fb = s.fb := by
  unfold reseedActive
  split <;> rfl

/-- How many writes a frame issues (R237). -/
def frameWriteCount (held pressed : Byte) (s : State) : Nat :=
  if frameMode pressed s = .testPattern ∨ triggered held pressed s.cfg.btnReset s.cfg.trigReset = true ∨
      triggered held pressed s.cfg.btnReseed s.cfg.trigReseed = true then 65536
  else if frameMode pressed s = .viewTwoArgFunction then 131072 else 65792

theorem writesPlane_drawActive_scrolled (hm : frameMode pressed s ≠ .testPattern) :
    WritesPlane (if frameMode pressed s = .viewTwoArgFunction then 131072 else 65792) s
      (drawActive (scrolled held pressed s)) := by
  have hmode := scrolled_mode held pressed s
  have hwrites := scrolled_fbWrites held pressed s
  have hfb := scrolled_fb held pressed s
  cases h : frameMode pressed s with
  | viewTwoArgFunction => rw [drawActive_view _ (hmode.trans h)]; exact writesPlane_plot2 hwrites hfb
  | visualizeOneArgFunction => rw [drawActive_visualize _ (hmode.trans h)]; exact writesPlane_plot1 hwrites hfb
  | testPattern => exact absurd h hm

/-- The pattern, and each of the three branches, writes the plane; the strobe after it writes nothing. -/
theorem writesPlane_runFrame (held pressed : Byte) (s : State) :
    WritesPlane (frameWriteCount held pressed s) s (runFrame held pressed s) := by
  have hwrites := scrolled_fbWrites held pressed s
  have hfb := scrolled_fb held pressed s
  by_cases hm : frameMode pressed s = .testPattern
  · rw [runFrame_pattern held pressed ((frameAdvance_mode_eq pressed s).trans hm), frameWriteCount, if_pos (.inl hm)]
    exact writesPlane_framePattern (by simp) (by simp)
  · cases hreset : triggered held pressed s.cfg.btnReset s.cfg.trigReset with
    | true =>
      rw [runFrame_of_reset hm hreset, frameWriteCount, if_pos (.inr (.inl hreset))]
      exact writesPlane_issue _ hwrites hfb
    | false =>
      cases hreseed : triggered held pressed s.cfg.btnReseed s.cfg.trigReseed with
      | true =>
        rw [runFrame_of_reseed hm hreset hreseed, frameWriteCount, if_pos (.inr (.inr hreseed))]
        exact writesPlane_issue _ ((reseedActive_fbWrites _).trans hwrites) ((reseedActive_fb _).trans hfb)
      | false =>
        rw [runFrame_of_draw hm hreset hreseed, frameWriteCount, if_neg (by simp [hm, hreset, hreseed])]
        exact writesPlane_drawActive_scrolled hm

/-- Settles O53: a frame writes the plane with the writes it issues, so no cell is left unwritten. -/
theorem frameWritesEveryCell : Obligations.FrameWritesEveryCell := by
  intro held pressed s t hexec
  obtain rfl := (exec_next_iff _ s t).1 hexec
  obtain ⟨ws, hwrites, hfb, hcover, hlength⟩ := writesPlane_runFrame held pressed s
  refine ⟨ws, hwrites, hcover, fun k => ?_, hlength⟩
  rw [effect, readFb, hfb]
  exact lookup_applyWrites_ne_none s.fb (hcover k)

end Sys2Proof.Machine
end

section
/-! SUPPORT. That every step completes, and what leaves the core alone: the host's actions, and every step but a reset
while the block is not ready (spec 60_exceptions.md R250, R253, R267, R269, 70_reset_and_hazards.md R294). -/
namespace Sys2Proof.Machine

/-- Settles O7: with nothing pending the step is idle, and otherwise it is the effect of the next input. -/
theorem everyStepCompletes : Obligations.EveryStepCompletes := by
  intro s
  cases hin : s.inputs with
  | nil => exact ⟨s, step_idle hin⟩
  | cons i rest => exact ⟨_, step_input hin⟩

theorem KeepsCore.coreRegisters {s t : State} (h : KeepsCore s t) : coreRegisters t = coreRegisters s := by
  simp only [Machine.coreRegisters, h.mode, h.xoff, h.yoff, h.chk, h.rng, h.ft1, h.ft2, h.res, h.errIllegal,
    h.errConfig, h.busy, h.cfg]

theorem coreRegisters_dropInput (rest : List HostInput) (s : State) :
    coreRegisters (dropInput rest s) = coreRegisters s := rfl

/-- A word presented while the block is not ready is ignored; what else happens meanwhile happens (R294). -/
theorem offered_of_not_ready {s : State} (h : cmdReady s = false) (cw : Word) (during : List BusyEvent) :
    offered cw during s = busyEvents during s :=
  if_neg (Bool.eq_false_iff.1 h)

theorem keepsCore_offered_of_not_ready {s : State} (h : cmdReady s = false) (cw : Word) (during : List BusyEvent) :
    KeepsCore s (offered cw during s) := by
  rw [offered_of_not_ready h]
  exact keepsCore_busyEvents during s

/-- While the block is not ready, every input but a reset leaves the core alone. -/
theorem keepsCore_inputEffect_of_not_ready {i : HostInput} {s : State} (hready : cmdReady s = false)
    (hreset : isResetInput i = false) : KeepsCore s (inputEffect i s) := by
  cases i with
  | command cw during => exact keepsCore_offered_of_not_ready hready cw during
  | frame during => exact keepsCore_offered_of_not_ready hready _ during
  | host e => exact keepsCore_hostEvent e s
  | reset during req => cases hreset
  | abort cw during issued req => cases hreset

theorem coreRegisters_step_of_not_ready {s t : State} (hready : cmdReady s = false) (hreset : resetsNext s = false)
    (hstep : step s = .next t) : coreRegisters t = coreRegisters s := by
  obtain ⟨-, rfl⟩ | ⟨i, rest, hin, rfl⟩ := step_cases hstep
  · rfl
  · have hi : isResetInput i = false := (resetsNext_cons hin).symm.trans hreset
    exact (keepsCore_inputEffect_of_not_ready ((cmdReady_dropInput rest s).trans hready) hi).coreRegisters

/-- Settles O58: the host's actions and what happens during a command write the platform's side only, and while the
block is not ready nothing else happens but a reset. -/
theorem hostActionsKeepCore : Obligations.HostActionsKeepCore := by
  refine ⟨fun e s => (keepsCore_hostEvent e s).coreRegisters, fun es s => (keepsCore_busyEvents es s).coreRegisters,
    ?host, fun s t => coreRegisters_step_of_not_ready, fun s => step_idle⟩
  case host =>
    intro s t e rest hin hstep
    obtain rfl := Host.Outcome.next.inj ((step_input hin).symm.trans hstep)
    exact (keepsCore_hostEvent e (dropInput rest s)).coreRegisters

end Sys2Proof.Machine
end

section
/-! SUPPORT. The configuration check item by item, and the session of a configuration that fails it (spec
60_exceptions.md R252, 10_state.md R30). -/
namespace Sys2Proof.Machine

/-- The check of the bindings does not depend on the order in which they are listed (R252 (c)). -/
theorem bindingsDistinct_iff (btnReset btnReseed btnModifier btnAdvance : Face) :
    bindingsDistinct btnReset btnReseed btnModifier btnAdvance = true ↔
      [btnAdvance, btnModifier, btnReset, btnReseed].Pairwise (fun a b => a ≠ b) := by
  have hperm : [btnReset, btnReseed, btnModifier, btnAdvance].Perm [btnAdvance, btnModifier, btnReset, btnReseed] :=
    (List.perm_append_comm (l₁ := [btnReset, btnReseed])).trans (.swap btnAdvance btnModifier _)
  rw [bindingsDistinct, decide_eq_true_iff]
  exact hperm.nodup_iff

theorem one_le_length_iff {α : Type} (l : List α) : (!l.isEmpty) = true ↔ 1 ≤ l.length := by
  cases l <;> simp

theorem configOk_iff (cfg : SessionConfig) : configOk cfg = true ↔
    1 ≤ cfg.palette.length ∧
      [cfg.btnAdvance, cfg.btnModifier, cfg.btnReset, cfg.btnReseed].Pairwise (fun a b => a ≠ b) ∧
      cfg.colourReset ≠ cfg.colourReseed := by
  rw [configOk, Bool.and_eq_true, Bool.and_eq_true, one_le_length_iff, bindingsDistinct_iff, bne_iff_ne, and_assoc]

theorem portOk_iff (p : ConfigPort) : portOk p = true ↔
    p.fbCells = 65536 ∧ configOk (samplePort p) = true ∧ p.trigReset ≠ none ∧ p.trigReseed ≠ none ∧
      p.patternOffsetSrc ≠ none ∧ p.dirSign ≠ none ∧ p.resetTableFill ≠ none := by
  simp only [portOk, Bool.and_eq_true, beq_iff_eq, Option.isSome_iff_ne_none, cellCount, and_assoc]

theorem hostReset_rng_of_failed {req : ResetRequest} (h : portOk req.port = false) (s : State) :
    (hostReset req s).rng = Config.rngInit req.seed := by
  rw [hostReset, resetSequence_failed h, freeTables_rng, setErrConfig_rng, resetRegisters_rng]

theorem cmdReady_of_errConfig {s : State} (h : s.errConfig = true) : cmdReady s = false := by
  rw [cmdReady, h, Bool.not_true, Bool.and_false]

/-- Settles O10: the check is its items, a reset that fails it leaves the reset values with ERR_CONFIG set, and with
ERR_CONFIG set the block is not ready. -/
theorem failedConfigurationIsStuck : Obligations.FailedConfigurationIsStuck := by
  refine ⟨fun p => ?check, fun req s hfailed => ?reset, fun s t herr hreset hstep => ?stuck⟩
  case check => rw [portOk_iff, configOk_iff, and_assoc, and_assoc]; rfl
  case reset =>
    have hleft := resetLeaves_hostReset req s
    have herr : (hostReset req s).errConfig = true := by rw [hleft.errConfig, hfailed, Bool.not_false]
    have hstatus : statusWord (hostReset req s) = 0x00000020 := by
      rw [statusWord_of_resetLeaves hleft, hfailed, if_neg Bool.false_ne_true]
    exact ⟨herr, cmdReady_of_errConfig herr, hostReset_rng_of_failed hfailed s, hleft.mode, hleft.xoff, hleft.yoff,
      hleft.chk, hleft.res, hleft.errIllegal, hleft.busy, hstatus⟩
  case stuck => exact coreRegisters_step_of_not_ready (cmdReady_of_errConfig herr) hreset hstep

end Sys2Proof.Machine
end

section
/-! SUPPORT. That a command neither reads nor, beyond its writes and its strobe, changes what surrounds the core (spec
60_exceptions.md R261, 20_memory.md R54). -/
namespace Sys2Proof.Machine

/-- What surrounds the core: the latch, the host's side, the framebuffer and the outputs issued before. -/
structure Surroundings where
  latchNow : Byte
  latchPrev : Byte
  inputs : List HostInput
  hostData : Word
  choices : Nat
  fb : Framebuffer
  fbWrites : List FbWrite
  strobe : Bool

/-- The core of a state in other surroundings. -/
def Surroundings.around (o : Surroundings) (s : State) : State :=
  { s with latchNow := o.latchNow, latchPrev := o.latchPrev, inputs := o.inputs, hostData := o.hostData,
           choices := o.choices, fb := o.fb, fbWrites := o.fbWrites, strobe := o.strobe }

/-- The surroundings after outputs: a list of writes, and the strobe or none. -/
def Surroundings.after (o : Surroundings) (ws : List FbWrite) (emits : Bool) : Surroundings :=
  { o with fb := applyWrites o.fb ws, fbWrites := o.fbWrites ++ ws, strobe := emits || o.strobe }

theorem Surroundings.after_nil (o : Surroundings) : o.after [] false = o := by
  rw [after, applyWrites_nil, List.append_nil, Bool.false_or]

theorem Surroundings.after_after (o : Surroundings) (ws ws' : List FbWrite) (emits emits' : Bool) :
    (o.after ws emits).after ws' emits' = o.after (ws ++ ws') (emits' || emits) := by
  simp only [after, applyWrites_append, List.append_assoc, Bool.or_assoc]

/-- `f` is blind to the surroundings: what it does to the core and the writes it issues are the same in all of them, and
it changes them by those writes and by its strobe, if it emits one, only. -/
def Blind (emits : Bool) (f : State → State) : Prop :=
  ∀ s, ∃ ws, (f s).fbWrites = s.fbWrites ++ ws ∧
    ∀ o : Surroundings, f (o.around s) = (o.after ws emits).around (f s)

theorem Blind.of_silent {f : State → State} (hwrites : ∀ s, (f s).fbWrites = s.fbWrites)
    (hcore : ∀ (o : Surroundings) (s : State), f (o.around s) = o.around (f s)) : Blind false f := by
  refine fun s => ⟨[], (hwrites s).trans (List.append_nil _).symm, fun o => ?_⟩
  rw [o.after_nil, hcore]

theorem Blind.comp {f g : State → State} {emits emits' : Bool} (hg : Blind emits' g) (hf : Blind emits f) :
    Blind (emits' || emits) (g ∘ f) := by
  intro s
  obtain ⟨ws, hwrites, hcore⟩ := hf s
  obtain ⟨ws', hwrites', hcore'⟩ := hg (f s)
  refine ⟨ws ++ ws', ?_, fun o => ?_⟩
  · rw [Function.comp_apply, hwrites', hwrites, List.append_assoc]
  · rw [Function.comp_apply, Function.comp_apply, hcore, hcore', o.after_after]

/-- A paint is blind if its list is made from the core. -/
theorem blind_issue {writes : State → List FbWrite}
    (h : ∀ (o : Surroundings) (s : State), writes (o.around s) = writes s) :
    Blind false fun s => issue (writes s) s :=
  fun s => ⟨writes s, rfl, fun o => congrArg (issue · (o.around s)) (h o s)⟩

theorem blind_emitRotate : Blind true emitRotate := by
  refine fun s => ⟨[], (List.append_nil s.fbWrites).symm, fun o => ?_⟩
  simp [emitRotate, Surroundings.around, Surroundings.after]

theorem blind_effect_of_ne {i : Instr} (hframe : ∀ held pressed, i ≠ .frame held pressed) :
    Blind false (effect i) := by
  cases i with
  | frame held pressed => exact absurd rfl (hframe held pressed)
  | fill sel => exact blind_issue (writes := fun s => solidWrites (selectColour s.cfg sel)) fun _ _ => rfl
  | patStripe => exact blind_issue (writes := stripeWrites) fun _ _ => rfl
  | patChecker => exact blind_issue (writes := checkerWrites) fun _ _ => rfl
  | drawFn1 => exact blind_issue (writes := fun s => solidWrites s.cfg.colourBg ++ plot1Writes s) fun _ _ => rfl
  | drawFn2 => exact blind_issue (writes := fun s => solidWrites s.cfg.colourBg ++ plot2Writes s) fun _ _ => rfl
  | _ => exact .of_silent (fun _ => rfl) fun _ _ => rfl

/-! A frame is blind because each command of its plan is, and none of them is a frame. -/

/-- None of the commands is a frame. -/
def NoFrame (is : List Instr) : Prop := ∀ i ∈ is, ∀ held pressed, i ≠ .frame held pressed

theorem NoFrame.append {is js : List Instr} (hi : NoFrame is) (hj : NoFrame js) : NoFrame (is ++ js) :=
  List.forall_mem_append.2 ⟨hi, hj⟩

theorem NoFrame.cons {i : Instr} {is : List Instr} (h : ∀ held pressed, i ≠ .frame held pressed) (hi : NoFrame is) :
    NoFrame (i :: is) :=
  List.forall_mem_cons.2 ⟨h, hi⟩

theorem noFrame_singleton {i : Instr} (h : ∀ held pressed, i ≠ .frame held pressed) : NoFrame [i] :=
  List.forall_mem_singleton.2 h

variable (held pressed : Byte)

theorem noFrame_advancePlan (s : State) : NoFrame (advancePlan pressed s) := by
  unfold advancePlan
  split
  · exact noFrame_singleton nofun
  · exact nofun

theorem scrollCommand_ne_frame (sign : DirSign) (d : Direction) : scrollCommand sign d ≠ .frame held pressed := by
  obtain ⟨up, down, left, right⟩ := sign
  cases d with
  | up => cases up <;> exact nofun
  | down => cases down <;> exact nofun
  | left => cases left <;> exact nofun
  | right => cases right <;> exact nofun

theorem noFrame_scrollPlan (v : Byte) (sign : DirSign) (ds : List Direction) : NoFrame (scrollPlan v sign ds) := by
  intro i hi held pressed
  simp only [scrollPlan, chosen, List.mem_map, List.mem_filter] at hi
  obtain ⟨-, ⟨⟨d, -, rfl⟩, -⟩, rfl⟩ := hi
  exact scrollCommand_ne_frame held pressed sign d

theorem noFrame_branchPlan (cfg : SessionConfig) (two : Bool) : NoFrame (branchPlan held pressed cfg two) := by
  unfold branchPlan
  split
  · exact noFrame_singleton nofun
  · split
    · cases two <;> exact .cons nofun (noFrame_singleton nofun)
    · cases two <;> exact noFrame_singleton nofun

theorem noFrame_patternPlan (n : Nat) (chk : Bool) :
    NoFrame (List.replicate n .chkToggle ++ [if chk then .patChecker else .patStripe]) := by
  refine NoFrame.append (fun i hi => List.eq_of_mem_replicate hi ▸ nofun) ?_
  cases chk <;> exact noFrame_singleton nofun

theorem noFrame_framePlan (s : State) : NoFrame (framePlan held pressed s) := by
  obtain hm | ⟨two, hm⟩ := mode_cases (frameMode pressed s)
  · rw [framePlan_of_pattern held pressed hm]
    exact (noFrame_advancePlan pressed s).append (noFrame_patternPlan _ _)
  · rw [framePlan_of_visualiser held pressed hm]
    have hscroll := noFrame_scrollPlan (scrollSet held pressed s) s.cfg.dirSign scrollOrder
    exact (noFrame_advancePlan pressed s).append (hscroll.append (noFrame_branchPlan held pressed s.cfg two))

/-- The state that a list of commands leaves. -/
def effects (is : List Instr) (s : State) : State := is.foldl (fun t i => effect i t) s

theorem runInstrs_eq_effects (is : List Instr) (s : State) : runInstrs is s = .next (effects is s) := by
  induction is generalizing s with
  | nil => rfl
  | cons i is ih => exact (runInstrs_cons i is s).trans (ih _)

theorem blind_effects {is : List Instr} (h : NoFrame is) : Blind false (effects is) := by
  induction is with
  | nil => exact .of_silent (fun _ => rfl) fun _ _ => rfl
  | cons i is ih =>
    obtain ⟨hi, his⟩ := List.forall_mem_cons.1 h
    exact (ih his).comp (blind_effect_of_ne hi)

/-- A frame performs its plan and emits its strobe (R230). -/
theorem runFrame_eq_effects (s : State) :
    runFrame held pressed s = emitRotate (effects (framePlan held pressed s) s) := by
  have hplan := Host.Outcome.next.inj ((runInstrs_framePlan held pressed s).symm.trans (runInstrs_eq_effects _ s))
  rw [runFrame_eq, hplan]

/-- The plan is made from the core, so in other surroundings the frame performs the same commands. -/
theorem blind_runFrame : Blind true (runFrame held pressed) := by
  intro s
  obtain ⟨ws, hwrites, hcore⟩ := blind_emitRotate.comp (blind_effects (noFrame_framePlan held pressed s)) s
  refine ⟨ws, ?_, fun o => ?_⟩
  · rw [runFrame_eq_effects]
    exact hwrites
  · have hplan : framePlan held pressed (o.around s) = framePlan held pressed s := rfl
    rw [runFrame_eq_effects, runFrame_eq_effects, hplan]
    exact hcore o

theorem blind_effect (i : Instr) :
    ∃ emits, (emits = true ↔ ∃ held pressed, i = .frame held pressed) ∧ Blind emits (effect i) := by
  by_cases hframe : ∃ held pressed, i = .frame held pressed
  · obtain ⟨held, pressed, rfl⟩ := hframe
    exact ⟨true, iff_of_true rfl ⟨held, pressed, rfl⟩, blind_runFrame held pressed⟩
  · exact ⟨false, iff_of_false Bool.false_ne_true hframe,
      blind_effect_of_ne fun held pressed h => hframe ⟨held, pressed, h⟩⟩

/-- Settles O18: every command is blind to the latch, the host's side, the framebuffer and the earlier outputs. -/
theorem commandsNeverReadLatch : Obligations.CommandsNeverReadLatch := by
  intro i s t hexec
  obtain rfl := (exec_next_iff i s t).1 hexec
  obtain ⟨emits, hemits, hblind⟩ := blind_effect i
  obtain ⟨ws, hwrites, hcore⟩ := hblind s
  refine ⟨ws, emits, hwrites, hemits, fun now prev ins data n m earlier emitted => ?_⟩
  rw [exec_eq_effect]
  exact congrArg Host.Outcome.next (hcore ⟨now, prev, ins, data, n, m, earlier, emitted⟩)

end Sys2Proof.Machine
end

section
/-! SUPPORT. The input latch: its contract, the frame of a sample of it, and that an edge takes a press (spec
60_exceptions.md R260, R261, 45_frame.md R235, R238, 70_reset_and_hazards.md R297, R298). -/
namespace Sys2Proof.Machine

theorem buttonBit_lt (b : Button) : buttonBit b < 8 := by
  rcases b with (_ | _ | _ | _) | (_ | _ | _ | _) <;> decide

theorem isSet_and_not (v w : Byte) (b : Button) : isSet (v &&& ~~~w) b = (isSet v b && !isSet w b) := by
  simp only [isSet, BitVec.getLsbD_and, BitVec.getLsbD_not, buttonBit_lt, decide_true, Bool.true_and]

theorem isSet_clearButton (v : Byte) (b c : Button) : isSet (clearButton v c) b = (isSet v b && !(b == c)) := by
  rw [clearButton, isSet_and_not, isSet_buttonMask]

theorem isSet_latchPressed (s : State) (b : Button) :
    isSet (latchPressed s) b = (isSet s.latchNow b && !isSet s.latchPrev b) :=
  isSet_and_not s.latchNow s.latchPrev b

/-- A command that has emitted its strobe ends with the rotate, after what happened while it ran (R260, R235). -/
theorem finish_of_strobe {s : State} (h : s.strobe = true) (during : List BusyEvent) :
    finish during s = { rotateLatch (busyEvents during s) with busy := false } := by
  rw [finish_eq, if_pos h]

/-- Settles O55: the latch bit by bit, then the order of events and rotate. -/
theorem latchContract : Obligations.LatchContract := by
  refine ⟨fun b b' s => ⟨?pressNow, ?pressPrev, ?releaseNow, releaseButton_latchPrev s b⟩,
    fun s => ⟨rotateLatch_latchPrev s, rotateLatch_latchNow s⟩, fun b s => isSet_latchPressed s b,
    fun during s hstrobe => finish_of_strobe hstrobe during⟩
  case pressNow => rw [hostEvent, pressButton_latchNow, isSet_setButton, Bool.or_comm, beq_eq_decide]
  case pressPrev => rw [hostEvent, pressButton_latchPrev, isSet_clearButton, Bool.and_comm, beq_eq_decide]
  case releaseNow => rw [hostEvent, releaseButton_latchNow, isSet_clearButton, Bool.and_comm, beq_eq_decide]

/-! The frame of a sample. -/

/-- A ready block performs FRAME on the sample, then what happened while it ran, then the rotate (R261, R235). -/
theorem step_frame_ready {s : State} {during : List BusyEvent} {rest : List HostInput} (hready : cmdReady s = true)
    (hin : s.inputs = .frame during :: rest) :
    step s = .next { rotateLatch (busyEvents during (effect (sampledFrame s) (accept (dropInput rest s)))) with
      busy := false } := by
  have hoffered := offered_of_ready ((cmdReady_dropInput rest s).trans hready) (encode (sampledFrame s)) during
  have hstrobe : (effect (sampledFrame s) (accept (dropInput rest s))).strobe = true := emitRotate_strobe _
  rw [step_input hin, ← finish_of_strobe hstrobe, ← wordEffect_ok (decode_encode _), ← hoffered]
  rfl

/-! No button reports an edge: after a rotate, and for as long as no button is pressed. -/

/-- No button reports an edge (R260). -/
def NoEdge (s : State) : Prop := ∀ b, isSet (latchPressed s) b = false

variable {s t : State}

theorem noEdge_iff : NoEdge s ↔ ∀ b, isSet s.latchNow b = true → isSet s.latchPrev b = true := by
  simp only [NoEdge, isSet_latchPressed, Bool.and_eq_false_imp, Bool.not_eq_false']

theorem noEdge_of_rotated (h : s.latchPrev = s.latchNow) : NoEdge s := noEdge_iff.2 fun _ hb => h ▸ hb

theorem noEdge_rotateLatch (s : State) : NoEdge (rotateLatch s) := noEdge_of_rotated rfl

theorem NoEdge.of_same (h : NoEdge s) (hnow : t.latchNow = s.latchNow) (hprev : t.latchPrev = s.latchPrev) :
    NoEdge t := by
  rw [noEdge_iff, hnow, hprev]
  exact noEdge_iff.1 h

theorem NoEdge.releaseButton (h : NoEdge s) (b : Button) : NoEdge (releaseButton b s) := by
  refine noEdge_iff.2 fun b' hb' => ?_
  rw [releaseButton_latchNow, isSet_clearButton, Bool.and_eq_true] at hb'
  exact noEdge_iff.1 h b' hb'.1

/-- Of the host's actions only a press can make an edge (R260). -/
theorem NoEdge.hostEvent (h : NoEdge s) {e : HostEvent} (he : isPress e = false) : NoEdge (hostEvent e s) := by
  cases e with
  | press b => cases he
  | release b => exact h.releaseButton b
  | readRes => simp only [Machine.hostEvent, hostReadRes]; split <;> exact h
  | readStatus => simp only [Machine.hostEvent, hostReadStatus]; split <;> exact h
  | readCell i =>
    simp only [Machine.hostEvent, hostReadCell]
    split
    · exact h
    · split <;> exact h
  | writeCell i c => simp only [Machine.hostEvent, hostWriteCell]; split <;> exact h

theorem NoEdge.busyEvents (h : NoEdge s) {es : List BusyEvent} (hes : es.any isBusyPress = false) :
    NoEdge (busyEvents es s) := by
  induction es generalizing s with
  | nil => exact h
  | cons e es ih =>
    rw [List.any_cons, Bool.or_eq_false_iff] at hes
    obtain ⟨he, hes⟩ := hes
    cases e with
    | host e => exact ih (h.hostEvent he) hes
    | command cw => exact ih h hes

theorem NoEdge.wordEffect (h : NoEdge s) (cw : Word) : NoEdge (wordEffect cw s) := by
  cases hdecode : decode cw with
  | ok i =>
    have hkept := keepsRest_effect i s
    exact wordEffect_ok hdecode s ▸ h.of_same hkept.latchNow hkept.latchPrev
  | error e => exact wordEffect_illegal hdecode s ▸ h

theorem NoEdge.finish (h : NoEdge s) {during : List BusyEvent} (hduring : during.any isBusyPress = false) :
    NoEdge (finish during s) := by
  have hevents := h.busyEvents hduring
  rw [Machine.finish, applyStrobe]
  split
  · exact noEdge_rotateLatch _
  · exact hevents

theorem NoEdge.offered (h : NoEdge s) (cw : Word) {during : List BusyEvent} (hduring : during.any isBusyPress = false) :
    NoEdge (offered cw during s) := by
  have haccept : NoEdge (accept s) := h
  unfold Machine.offered
  split
  · exact (haccept.wordEffect cw).finish hduring
  · exact h.busyEvents hduring

theorem ResetLeaves.noEdge {req : ResetRequest} (hreset : ResetLeaves req s t) (h : NoEdge s) : NoEdge t :=
  h.of_same hreset.latchNow hreset.latchPrev

theorem NoEdge.hostReset (h : NoEdge s) (req : ResetRequest) : NoEdge (hostReset req s) :=
  (resetLeaves_hostReset req s).noEdge h

theorem NoEdge.cutShort (h : NoEdge s) {during : List BusyEvent} (hduring : during.any isBusyPress = false)
    (issued : Nat) (t : State) : NoEdge (cutShort during issued t s) := by
  have hunder : NoEdge (underWay (t.fbWrites.take issued) s) := h
  unfold Machine.cutShort
  split
  · exact noEdge_rotateLatch _
  · exact hunder.busyEvents hduring

theorem NoEdge.aborted (h : NoEdge s) (cw : Word) {during : List BusyEvent} (hduring : during.any isBusyPress = false)
    (issued : Nat) (req : ResetRequest) : NoEdge (aborted cw during issued req s) := by
  unfold Machine.aborted
  split
  · exact (resetLeaves_resetSequence req _).noEdge (h.cutShort hduring issued _)
  · exact (h.busyEvents hduring).hostReset req

theorem NoEdge.inputEffect (h : NoEdge s) {i : HostInput} (hi : inputPresses i = false) : NoEdge (inputEffect i s) := by
  cases i with
  | command cw during => exact h.offered cw hi
  | frame during => exact h.offered _ hi
  | host e => exact h.hostEvent hi
  | reset during req =>
    have hunder : NoEdge (underWay [] s) := h
    exact (hunder.busyEvents hi).hostReset req
  | abort cw during issued req => exact h.aborted cw hi issued req

theorem pressesNext_cons {i : HostInput} {rest : List HostInput} (h : s.inputs = i :: rest) :
    pressesNext s = inputPresses i := by
  simp [pressesNext, h]

theorem NoEdge.step (h : NoEdge s) (hpress : pressesNext s = false) (hstep : step s = .next t) : NoEdge t := by
  obtain ⟨-, rfl⟩ | ⟨i, rest, hin, rfl⟩ := step_cases hstep
  · exact h
  · have hdrop : NoEdge (dropInput rest s) := h
    exact hdrop.inputEffect ((pressesNext_cons hin).symm.trans hpress)

/-- Settles O56: the step of a sampled frame ends with the rotate, and no step without a press makes an edge. -/
theorem sampledFrameRotatesLatch : Obligations.SampledFrameRotatesLatch := by
  refine ⟨fun s during rest hready hin => ?frame, fun s u hedge hpress hstep => NoEdge.step hedge hpress hstep⟩
  case frame =>
    have hstep := step_frame_ready hready hin
    refine ⟨⟨_, exec_eq_effect _ _, hstep⟩, fun u hu => ?_⟩
    obtain rfl := Host.Outcome.next.inj (hstep.symm.trans hu)
    exact ⟨rfl, noEdge_of_rotated rfl⟩

end Sys2Proof.Machine
end

section
/-! SUPPORT. That a word presented while the block is not ready is ignored (spec 10_state.md R31,
70_reset_and_hazards.md R294). -/
namespace Sys2Proof.Machine

/-- Settles O8: a block that is not ready does what happens meanwhile and nothing else. -/
theorem wordIgnoredWhileNotReady : Obligations.WordIgnoredWhileNotReady := by
  refine ⟨fun _ => rfl, fun s cw during rest hready hin => ?_, fun _ _ => rfl⟩
  rw [step_input hin, inputEffect, offered_of_not_ready ((cmdReady_dropInput rest s).trans hready)]
  rfl

end Sys2Proof.Machine
end

section
/-! SUPPORT. What a reset with no command in progress leaves in the tables and the generator, by the outcome of the check
and the fill (spec 70_reset_and_hazards.md R290, R291). -/
namespace Sys2Proof.Machine

variable {req : ResetRequest} {s : State}

theorem readFb_hostReset (req : ResetRequest) (s : State) (i : Index) : readFb (hostReset req s) i = none := by
  rw [readFb, (resetLeaves_hostReset req s).fb]
  rfl

/-- The fill an accepted configuration names is the one the block holds (R11, R263). -/
theorem samplePort_resetTableFill {port : ConfigPort} {f : TableFill} (h : port.resetTableFill = some f) :
    (samplePort port).resetTableFill = f :=
  congrArg (·.getD .fillFt1ThenFt2) h

theorem hostReset_rng_of_unspecified (hok : portOk req.port = true)
    (hfill : req.port.resetTableFill = some .unspecified) : (hostReset req s).rng = Config.rngInit req.seed := by
  rw [hostReset, resetSequence_unspecified hok (samplePort_resetTableFill hfill)]
  rfl

/-- The draws of the default fill: FT1 has the first 256, FT2 the next 65536 in row-major order (R128, R129, R290). -/
theorem hostReset_filled (hok : portOk req.port = true)
    (hfill : req.port.resetTableFill = some .fillFt1ThenFt2) :
    (∀ a, readFt1 (hostReset req s) a = drawnByte (afterDraws a.toNat (Config.rngInit req.seed))) ∧
      (∀ r c, readFt2 (hostReset req s) r c =
        drawnByte (afterDraws (256 + (r.toNat * 256 + c.toNat)) (Config.rngInit req.seed))) ∧
      (hostReset req s).rng = afterDraws 65792 (Config.rngInit req.seed) := by
  rw [hostReset, resetSequence_filled hok (samplePort_resetTableFill hfill)]
  refine ⟨readFt1_refillFt1 _, fun r c => ?ft2, ?rng⟩
  case ft2 =>
    rw [readFt2_refillFt2, refillFt1_rng, ← afterDraws_add]
    rfl
  case rng =>
    rw [refillFt2_rng_whole, refillFt1_rng, ← afterDraws_add]
    rfl

/-- Settles O21: the registers are those every reset leaves, and the tables and the generator follow the outcome of the
check and the fill. (`resetSequence` itself is the model's function.) -/
theorem resetSequence_holds : Obligations.ResetSequence := by
  refine ⟨fun s during req rest hin => step_input hin, fun req s => ?_⟩
  have hleft := resetLeaves_hostReset req s
  exact ⟨hleft.mode, hleft.xoff, hleft.yoff, hleft.chk, hleft.res, hleft.errIllegal, hleft.errConfig, hleft.busy,
    hleft.cfg, readFb_hostReset req s, hleft.latchNow, hleft.latchPrev, hostReset_filled, hostReset_rng_of_unspecified,
    fun hfailed => hostReset_rng_of_failed hfailed s⟩

end Sys2Proof.Machine
end

section
/-! SUPPORT. The state right after reset: its configuration passes the check, it meets the invariant, and the reset
sequence of its own session leaves it (spec 60_exceptions.md R252, 70_reset_and_hazards.md R290, R291). -/
namespace Sys2Proof.Machine

/-- The two diagnostic colours differ by a distance that is never a multiple of `2^32` (R252 (d)). -/
theorem colourReset_ne_colourReseed : Config.colourReset ≠ Config.colourReseed := by
  have hdistance := Config.reseedDistance.isLt
  unfold Config.colourReseed
  bv_omega

theorem configOk_session : configOk Config.session = true :=
  (configOk_iff _).2 ⟨Nat.succ_pos _, by decide, colourReset_ne_colourReseed⟩

/-- Settles O20: the memories after reset are canonical, the session's configuration passes the check, and ERR_CONFIG
and BUSY are 0. -/
theorem resetMeetsInv : Obligations.ResetMeetsInv :=
  canonical_reset.inv (fun _ => configOk_session) nofun rfl

/-- The port that presents a configuration passes the check exactly if the configuration does: every parameter is one
of its listed values. -/
theorem portOk_portOf (cfg : SessionConfig) : portOk (portOf cfg) = configOk cfg := by
  have hsample : samplePort (portOf cfg) = cfg := rfl
  rw [Bool.eq_iff_iff, portOk_iff, hsample]
  simp [portOf]

/-- A refill of both tables writes every entry, so what they held has no part in the state it leaves. -/
theorem refillBoth_eq {s : State} {m1 m2 : Table} (hs : Canonical s) (hm1 : tableWf ft1Size m1 = true)
    (hm2 : tableWf ft2Size m2 = true) :
    refillFt2 (refillFt1 { s with ft1 := m1, ft2 := m2 }) = refillFt2 (refillFt1 s) := by
  simp only [refillFt1, refillFt2, refillRows_whole, refillFrom_whole_eq _ hm1 hs.ft1,
    refillFrom_whole_eq _ hm2 hs.ft2]

/-- Settles O22: the fill of the session's own reset writes the tables that `State.reset` holds, whatever they held, and
every other field has its reset value already. -/
theorem resetStateIsAfterReset : Obligations.ResetStateIsAfterReset := by
  have hok : portOk (portOf Config.session) = true := (portOk_portOf _).trans configOk_session
  refine ⟨?sequence, hok, rfl, rfl, rfl, fun _ => rfl⟩
  case sequence =>
    have hregisters : Canonical (setErrConfig false
        (resetRegisters ⟨Config.seed, portOf Config.session⟩ (forgetCells State.reset))) :=
      canonical_reset.of_same rfl rfl rfl
    rw [hostReset, resetSequence_filled hok rfl, ← refillBoth_eq hregisters (tableWf_nil _) (tableWf_nil _)]
    rfl

end Sys2Proof.Machine
end

section
/-! SUPPORT. A reset that aborts a command: what the command cut short leaves of the platform, and that the reset's core
registers do not depend on it (spec 45_frame.md R235, 70_reset_and_hazards.md R290, R301). -/
namespace Sys2Proof.Machine

variable {s t : State}

/-- The core registers a reset leaves depend on nothing but the free choice it takes and what the tables held. -/
theorem coreRegisters_resetSequence_congr (req : ResetRequest) (hft1 : s.ft1 = t.ft1) (hft2 : s.ft2 = t.ft2)
    (hchoices : s.choices = t.choices) :
    coreRegisters (resetSequence req s) = coreRegisters (resetSequence req t) := by
  cases hok : portOk req.port with
  | false => simp [resetSequence_failed hok, coreRegisters, hft1, hft2, hchoices]
  | true =>
    cases hfill : (samplePort req.port).resetTableFill with
    | unspecified => simp [resetSequence_unspecified hok hfill, coreRegisters, hft1, hft2, hchoices]
    | fillFt1ThenFt2 => simp [resetSequence_filled hok hfill, coreRegisters, hft1, hft2]

/-- The latch's `prev` after a command cut short at the output `issued`: rotated if the strobe, the output after the
last write, has come out (R235; log 14). `v` is the state after what happened meanwhile. -/
def cutShortPrev (issued : Nat) (t v : State) : Byte :=
  if t.strobe = true ∧ t.fbWrites.length < issued then v.latchNow else v.latchPrev

/-- A command cut short leaves its prefix of writes and what happened meanwhile, and nothing else but the rotate. -/
theorem cutShort_eq (during : List BusyEvent) (issued : Nat) (t s : State) :
    cutShort during issued t s =
      { busyEvents during (underWay (t.fbWrites.take issued) s) with
        latchPrev := cutShortPrev issued t (busyEvents during (underWay (t.fbWrites.take issued) s)) } := by
  simp only [cutShort, cutShortPrev, Bool.and_eq_true, decide_eq_true_eq]
  split <;> rfl

theorem aborted_of_ready {req : ResetRequest} (h : cmdReady s = true) (cw : Word) (during : List BusyEvent)
    (issued : Nat) :
    aborted cw during issued req s = resetSequence req (cutShort during issued (wordEffect cw (accept s)) s) :=
  if_pos h

/-- An abort of a command the ready block would accept is a reset of what the command cut short leaves. -/
theorem step_abort_ready {cw : Word} {during : List BusyEvent} {issued : Nat} {req : ResetRequest}
    {rest : List HostInput} (hready : cmdReady s = true) (hin : s.inputs = .abort cw during issued req :: rest) :
    step s = .next (resetSequence req
      (cutShort during issued (wordEffect cw (accept (dropInput rest s))) (dropInput rest s))) := by
  rw [step_input hin, inputEffect, aborted_of_ready ((cmdReady_dropInput rest s).trans hready)]

/-- Settles O23: the step is the reset sequence at what the command cut short leaves, which keeps the cells and the
latch. -/
theorem resetAbortsCommand : Obligations.ResetAbortsCommand := by
  intro s t u cw i during n req rest hready hin hdecode hexec hstep v
  have ht : effect i (accept (dropInput rest s)) = t :=
    Host.Outcome.next.inj ((exec_eq_effect i _).symm.trans hexec)
  have hcut : cutShort during n t (dropInput rest s) = { v with latchPrev := cutShortPrev n t v } :=
    cutShort_eq during n t _
  obtain rfl : resetSequence req { v with latchPrev := cutShortPrev n t v } = u := by
    rw [step_abort_ready hready hin, wordEffect_ok hdecode, ht, hcut] at hstep
    exact Host.Outcome.next.inj hstep
  have hleft := resetLeaves_resetSequence req { v with latchPrev := cutShortPrev n t v }
  refine ⟨?cells, hleft.fb, hleft.mode, hleft.xoff, hleft.yoff, hleft.chk, hleft.res, hleft.errIllegal, hleft.busy,
    hleft.errConfig, hleft.latchNow, hleft.latchPrev, coreRegisters_resetSequence_congr req rfl rfl rfl⟩
  case cells =>
    rintro rfl
    exact hleft.fb

end Sys2Proof.Machine
end
